-- ==== Sys2Proof/Word.lean ====
section
/-! DEFINITION. The widths of the values that pass through RBK-CODEC (10_state R30, R24, R28). All of them are
unsigned (00_scope R7); bit 0 is the least significant bit. -/

namespace Sys2Proof

/-- Eight bits: a node address, a channel, a payload byte (R24, R28, R38). -/
abbrev Byte := BitVec 8

/-- Sixteen bits: a duty (R28), the only value wider than a byte that a payload holds (R58). -/
abbrev Half := BitVec 16

/-- A 13-bit command code (R30, R110; conflict C6: 13 bits, not 16). -/
abbrev Code := BitVec 13

/-- A 29-bit identifier value (R27, R30). -/
abbrev Ident := BitVec 29

/-- A payload: bytes, index 0 first, of any length a reader can report (R38). -/
abbrev Payload := List Byte

end Sys2Proof
end

