-- ==== Sys2Proof/Syntax.lean ====
section
/-! DEFINITION. The value types of 10_state section 2, the instructions (one constructor per row of
opcode_table.json), the requests a host presents and the responses it takes (R40 to R43). -/

namespace Sys2Proof

/-! ### Value types -/

/-- A node address (R24). Every value of `raw` is legal; 0xFF is also the broadcast sentinel (R51). -/
structure NodeIdentity where
  raw : Byte
  deriving DecidableEq, Repr

/-- The closed set of commands (R25). -/
inductive Command where
  | stop
  | ping
  | pong
  | setDuty
  | notifySwitchState
  deriving DecidableEq, Repr

/-- The four ranges of the code space (R26). -/
inductive RangeTag where
  | system
  | control
  | telemetry
  | config
  deriving DecidableEq, Repr

/-- What the frame reader says of an identifier: 11 bits or 29 bits (R27). -/
inductive IdentifierKind where
  | standard
  | extended
  deriving DecidableEq, Repr

/-- A logical sub-address, never validated (R28, R53). -/
structure Channel where
  val : Byte
  deriving DecidableEq, Repr

/-- An unsigned drive magnitude, never validated, clamped or scaled (R28). -/
structure Duty where
  val : Half
  deriving DecidableEq, Repr

/-- Direction of rotation (R29). -/
inductive Dir where
  | cw
  | ccw
  deriving DecidableEq, Repr

/-- State of a switch (R29). -/
inductive SwitchState where
  | off
  | on
  deriving DecidableEq, Repr

/-- The typed argument value of a command, a union keyed by Command (R37). -/
inductive Data where
  | stop
  | ping
  | pong
  | setDuty (channel : Channel) (duty : Duty) (dir : Dir)
  | notifySwitchState (channel : Channel) (state : SwitchState)
  deriving DecidableEq, Repr

/-- A frame as the block sees it: what the frame reader exposes and nothing else (R39, D9). -/
structure Frame where
  kind : IdentifierKind
  idval : Ident
  payload : Payload
  deriving DecidableEq, Repr

/-- The four failure kinds, in their order of precedence (R190, R200). A failure is an ordinary result and
carries nothing but its kind (R197). -/
inductive FailureKind where
  | wrongIdentifierKind
  | unknownCommand
  | malformedPayloadLength
  | invalidEnumValue
  deriving DecidableEq, Repr

/-! ### Instructions -/

/-- One constructor per row of opcode_table.json. The five commands are wire opcodes: a received extended
frame whose identifier names the command, with the addresses its identifier holds and the payload the reader
reports, of whatever length (R76). The twelve others are the operations of R9 with the operands of R41. -/
inductive Instr where
  /-- `Stop`, R143. -/
  | stop (sender receiver : NodeIdentity) (payload : Payload)
  /-- `Ping`, R144. -/
  | ping (sender receiver : NodeIdentity) (payload : Payload)
  /-- `Pong`, R145. -/
  | pong (sender receiver : NodeIdentity) (payload : Payload)
  /-- `SetDuty`, R146. -/
  | setDuty (sender receiver : NodeIdentity) (payload : Payload)
  /-- `NotifySwitchState`, R147. -/
  | notifySwitchState (sender receiver : NodeIdentity) (payload : Payload)
  /-- `NID_NEW`, R100. -/
  | nidNew (raw : Byte)
  /-- `NID_BROADCAST`, R101. -/
  | nidBroadcast
  /-- `NID_IS_BROADCAST`, R102. -/
  | nidIsBroadcast (n : NodeIdentity)
  /-- `CMD_CODE`, R113. -/
  | cmdCode (c : Command)
  /-- `CMD_LOOKUP`, R114. -/
  | cmdLookup (v : Code)
  /-- `CMD_RANGE`, R116. -/
  | cmdRange (v : Code)
  /-- `ID_PACK`, R130. -/
  | idPack (c : Command) (sender receiver : NodeIdentity)
  /-- `ID_UNPACK`, R131. -/
  | idUnpack (k : IdentifierKind) (v : Ident)
  /-- `PL_ENCODE`, R140. -/
  | plEncode (d : Data)
  /-- `PL_DECODE`, R141. -/
  | plDecode (c : Command) (p : Payload)
  /-- `FR_BUILD`, R173. -/
  | frBuild (sender receiver : NodeIdentity) (d : Data)
  /-- `FR_PARSE`, R174. -/
  | frParse (f : Frame)
  deriving DecidableEq, Repr

/-! ### Responses -/

/-- The success results of R42. -/
inductive Result where
  | node (n : NodeIdentity)
  | bit (b : BitVec 1)
  | code (v : Code)
  | command (c : Command)
  | range (t : RangeTag)
  | ident (v : Ident)
  | unpacked (c : Command) (sender receiver : NodeIdentity)
  | payload (p : Payload)
  | data (d : Data)
  | frame (f : Frame)
  | parsed (sender receiver : NodeIdentity) (d : Data)
  deriving DecidableEq, Repr

/-- One response: a result, or one failure kind and no result (R43, R202). -/
inductive Response where
  | ok (v : Result)
  | err (k : FailureKind)
  deriving DecidableEq, Repr

/-! ### Requests and their wires (R44, R75) -/

/-- A payload on wires: a 4-bit length and eight byte lanes (R44). -/
structure PayloadWires where
  len : BitVec 4 := 0
  b0 : Byte := 0
  b1 : Byte := 0
  b2 : Byte := 0
  b3 : Byte := 0
  b4 : Byte := 0
  b5 : Byte := 0
  b6 : Byte := 0
  b7 : Byte := 0
  deriving DecidableEq, Repr

/-- A frame on wires: `ext`, 29 bits `idval`, the length and the lanes (R44). -/
structure FrameWires where
  ext : BitVec 1 := 0
  idval : Ident := 0
  payload : PayloadWires := {}
  deriving DecidableEq, Repr

/-- A Data value on wires. DESIGN CHOICE (log 7): R44 does not name these wires; the tag travels as a Command
does, each field as R44 says of its type. -/
structure DataWires where
  cmd : Code := 0
  channel : Byte := 0
  duty : Half := 0
  dir : BitVec 1 := 0
  state : BitVec 1 := 0
  deriving DecidableEq, Repr

/-- The operand wires of the request port, one bundle per operand of R41. An operation reads its own operands
and ignores the others (log 7). -/
structure OperandWires where
  raw : Byte := 0
  n : Byte := 0
  c : Code := 0
  v : Code := 0
  k : BitVec 1 := 0
  idval : Ident := 0
  s : Byte := 0
  r : Byte := 0
  d : DataWires := {}
  p : PayloadWires := {}
  f : FrameWires := {}
  deriving DecidableEq, Repr

/-- What a host can present. -/
inductive Request where
  /-- A transaction: an operation name and its operands (R40). -/
  | call (i : Instr)
  /-- The multiplexed request port: an operation select in an 8-bit container (R75; log 8) and operand wires. -/
  | opsel (op : Byte) (w : OperandWires)
  /-- A received frame's wires, the identifier in a 32-bit container (R70, R74; log 8). -/
  | xid29 (ext : BitVec 1) (word : BitVec 32) (payload : PayloadWires)
  deriving DecidableEq, Repr

end Sys2Proof
end

