-- ==== Sys2Proof/Config.lean ====
section
/-! DEFINITION. The parameters of the block (00_scope R6, R14; 92 "Open parameters") and the one free value of
the model. Their defaults stand in Machine/Constants.lean. -/

namespace Sys2Proof

/-- The code table `CODE` (R35, R111): one 13-bit code per command. Its constraint, injectivity, is
`CodeTable.Admissible` of Safety.lean. -/
structure CodeTable where
  stop : Code
  ping : Code
  pong : Code
  setDuty : Code
  notifySwitchState : Code
  deriving DecidableEq, Repr

/-- What the frame constructor answers for one (identifier, payload): a frame, or a refusal (R171). -/
structure CtorAnswer where
  idval : Ident
  payload : Payload
  answer : Option Frame
  deriving DecidableEq, Repr

/-- The frame constructor `FrameCtor` as plain data (R171, R172; log 2): it accepts every payload of at most
`cap` bytes (`FRAME_CAP`, R36) and returns the record (Extended, identifier, payload), but where `answers`
says otherwise. FR_BUILD hands it finitely many pairs, so every constructor is of this form there. -/
structure FrameCtor where
  cap : Nat
  answers : List CtorAnswer
  deriving DecidableEq, Repr

/-- The parameters of the step (R14). No step changes them. -/
structure Config where
  code : CodeTable
  ctor : FrameCtor
  deriving DecidableEq, Repr

/-- DESIGN CHOICE, a free value (log 9): the byte at payload index 8 + i of a wire payload whose 4-bit length is
9 to 15. No lane carries it (R44), and no response depends on it (R142). -/
opaque Config.absentLane : Nat → Byte

end Sys2Proof
end

