-- ==== Sys2Proof/Machine/Constants.lean ====
section
/-! DEFINITION. The hardwired constants of 10_state section 3 (R30 to R36) and the default parameters (R112,
R36, 92 "Open parameters"). -/

namespace Sys2Proof.Machine

/-- `CMD_SHIFT` (R30): the place of code bit 0 in the identifier (R54). -/
def cmdShift : Nat := 16

/-- `SENDER_SHIFT` (R30). -/
def senderShift : Nat := 8

/-- `RECEIVER_SHIFT` (R30). -/
def receiverShift : Nat := 0

/-- `ID_BITS` (R30). -/
def idBits : Nat := 29

/-- `BROADCAST_RAW` (R31). -/
def broadcastRaw : Byte := 0xFF

/-- The last code of the System range (R32). -/
def systemLast : Code := 0x001F

/-- The last code of the Control range (R32). -/
def controlLast : Code := 0x0AFF

/-- The last code of the Telemetry range (R32). -/
def telemetryLast : Code := 0x15DF

/-- The payload length table `LEN` (R33). -/
def payloadLength : Command → Nat
  | .stop => 0
  | .ping => 0
  | .pong => 0
  | .setDuty => 4
  | .notifySwitchState => 2

/-- Direction byte, encoding side (R34, R148). -/
def dirEncode : Dir → Byte
  | .cw => 0x00
  | .ccw => 0x01

/-- Switch-state byte, encoding side (R34, R149); `Off` is 0x00 by decision D3 (log 14). -/
def stateEncode : SwitchState → Byte
  | .off => 0x00
  | .on => 0x01

/-- `FRAME_CAP` (R36). -/
def frameCap : Nat := 8

/-- The default code table (R112). Only 0x000B comes from the document; the others are decision D2 (log 1). -/
def defaultCode : CodeTable where
  stop := 0x0000
  ping := 0x0001
  pong := 0x0002
  setDuty := 0x0020
  notifySwitchState := 0x000B

/-- The constructor 92 ("Open parameters") gives for tests: it accepts every payload of at most 8 bytes and
returns the record (log 2). -/
def defaultCtor : FrameCtor where
  cap := frameCap
  answers := []

/-- The parameters the machine has after reset (log 1, log 2). -/
def defaultConfig : Config where
  code := defaultCode
  ctor := defaultCtor

end Sys2Proof.Machine
end

