-- ==== Sys2Proof/Machine/Operands.lean ====
section
/-! DEFINITION. The operand forms and the pure functions over them: the registry, the fields of an identifier
(R70, R77), the fields of a payload (R71 to R73, R78 to R80), payload access (R8, R52, R55). -/

namespace Sys2Proof.Machine

/-! ### The registry (41) -/

/-- `CODE[c]` (R35, R113). -/
def codeOf (t : CodeTable) : Command → Code
  | .stop => t.stop
  | .ping => t.ping
  | .pong => t.pong
  | .setDuty => t.setDuty
  | .notifySwitchState => t.notifySwitchState

/-- The five commands, in the document's order (R25). -/
def allCommands : List Command := [.stop, .ping, .pong, .setDuty, .notifySwitchState]

/-- Code to command (R114). For an injective table at most one command matches (R111); for another table the
first in the order of R25 answers (log 18). -/
def lookupCommand (t : CodeTable) (v : Code) : Except FailureKind Command :=
  match allCommands.find? (fun c => codeOf t c == v) with
  | some c => .ok c
  | none => .error .unknownCommand

/-- Code to range tag (R116, R32). -/
def rangeOf (v : Code) : RangeTag :=
  if v ≤ systemLast then .system
  else if v ≤ controlLast then .control
  else if v ≤ telemetryLast then .telemetry
  else .config

/-- `command_of(d)`: the tag of a Data value (R37). -/
def commandOf : Data → Command
  | .stop => .stop
  | .ping => .ping
  | .pong => .pong
  | .setDuty _ _ _ => .setDuty
  | .notifySwitchState _ _ => .notifySwitchState

/-! ### The identifier (R54, R70, R77) -/

/-- The `code` field, bits 28:16. -/
def codeField (v : Ident) : Code := v.extractLsb' cmdShift 13

/-- The `sender` field, bits 15:8. -/
def senderField (v : Ident) : Byte := v.extractLsb' senderShift 8

/-- The `receiver` field, bits 7:0. -/
def receiverField (v : Ident) : Byte := v.extractLsb' receiverShift 8

/-- The fields put together as R130 writes it: zero extension, shift, bitwise or. -/
def packFields (code : Code) (snd rcv : Byte) : Ident :=
  (code.zeroExtend 29 <<< cmdShift) ||| (snd.zeroExtend 29 <<< senderShift) ||| (rcv.zeroExtend 29 <<< receiverShift)

/-- `ID_PACK` (R130). -/
def packIdent (t : CodeTable) (c : Command) (snd rcv : NodeIdentity) : Ident :=
  packFields (codeOf t c) snd.raw rcv.raw

/-- `ID_UNPACK` (R131): the kind is judged before any bit of `v` is looked at. -/
def unpackIdent (t : CodeTable) (k : IdentifierKind) (v : Ident) :
    Except FailureKind (Command × NodeIdentity × NodeIdentity) :=
  match k with
  | .standard => .error .wrongIdentifierKind
  | .extended =>
    match lookupCommand t (codeField v) with
    | .ok c => .ok (c, ⟨senderField v⟩, ⟨receiverField v⟩)
    | .error e => .error e

/-! ### Payload access (R8, R52, R55) -/

/-- `MemRead(i, 1)`: defined only when index `i` names a byte. -/
def memRead1 (p : Payload) (i : Nat) : Option Byte := p[i]?

/-- `MemRead(i, 2)`: big-endian, the byte at `i` is the more significant (R55; log 13). -/
def memRead2 (p : Payload) (i : Nat) : Option Half :=
  match p[i]?, p[i + 1]? with
  | some hi, some lo => some ((hi.zeroExtend 16 <<< 8) ||| lo.zeroExtend 16)
  | _, _ => none

/-- `MemWrite(i, 1, v)` into the payload being built. -/
def memWrite1 (p : Payload) (i : Nat) (v : Byte) : Payload := p.set i v

/-- `MemWrite(i, 2, v)`: most significant byte first (R8, R55). -/
def memWrite2 (p : Payload) (i : Nat) (v : Half) : Payload :=
  (p.set i (v.extractLsb' 8 8)).set (i + 1) (v.extractLsb' 0 8)

/-- The payload being built for a command, before its bytes are written: `LEN[c]` bytes (R38, R52). -/
def blankPayload (c : Command) : Payload := List.replicate (payloadLength c) 0

/-! ### Enumeration bytes, decoding side (R79, R148, R149): the whole byte is compared -/

/-- Direction byte (R148). -/
def dirDecode (b : Byte) : Except FailureKind Dir :=
  if b = 0x00 then .ok .cw
  else if b = 0x01 then .ok .ccw
  else .error .invalidEnumValue

/-- Switch-state byte (R149). -/
def stateDecode (b : Byte) : Except FailureKind SwitchState :=
  if b = 0x00 then .ok .off
  else if b = 0x01 then .ok .on
  else .error .invalidEnumValue

/-! ### Encoders, one per command (R143 to R147) -/

/-- `enc_Stop` (R143). -/
def encStop : Payload := blankPayload .stop

/-- `enc_Ping` (R144). -/
def encPing : Payload := blankPayload .ping

/-- `enc_Pong` (R145). -/
def encPong : Payload := blankPayload .pong

/-- `enc_SetDuty` (R146). -/
def encSetDuty (ch : Channel) (du : Duty) (di : Dir) : Payload :=
  memWrite1 (memWrite2 (memWrite1 (blankPayload .setDuty) 0 ch.val) 1 du.val) 3 (dirEncode di)

/-- `enc_NotifySwitchState` (R147). -/
def encNotifySwitchState (ch : Channel) (st : SwitchState) : Payload :=
  memWrite1 (memWrite1 (blankPayload .notifySwitchState) 0 ch.val) 1 (stateEncode st)

/-- `PL_ENCODE` (R140). -/
def encodePayload : Data → Payload
  | .stop => encStop
  | .ping => encPing
  | .pong => encPong
  | .setDuty ch du di => encSetDuty ch du di
  | .notifySwitchState ch st => encNotifySwitchState ch st

/-! ### Decoders, one per command (R143 to R147), for a payload whose length is already judged

The last arm of the two field decoders is the read that R52 says no rule makes: it stands for a payload that is
too short, and answers as the length check does (R142; log 21). -/

/-- `dec_Stop` (R143). -/
def decStop (_ : Payload) : Except FailureKind Data := .ok .stop

/-- `dec_Ping` (R144). -/
def decPing (_ : Payload) : Except FailureKind Data := .ok .ping

/-- `dec_Pong` (R145). -/
def decPong (_ : Payload) : Except FailureKind Data := .ok .pong

/-- `dec_SetDuty` (R146). -/
def decSetDuty (p : Payload) : Except FailureKind Data :=
  match memRead1 p 0, memRead2 p 1, memRead1 p 3 with
  | some ch, some du, some b =>
    match dirDecode b with
    | .ok di => .ok (.setDuty ⟨ch⟩ ⟨du⟩ di)
    | .error e => .error e
  | _, _, _ => .error .malformedPayloadLength

/-- `dec_NotifySwitchState` (R147). -/
def decNotifySwitchState (p : Payload) : Except FailureKind Data :=
  match memRead1 p 0, memRead1 p 1 with
  | some ch, some b =>
    match stateDecode b with
    | .ok st => .ok (.notifySwitchState ⟨ch⟩ st)
    | .error e => .error e
  | _, _ => .error .malformedPayloadLength

/-- The length check of R142 before a command's decoder: equality with `LEN[c]`, before any byte is read. -/
def checkedDecode (c : Command) (dec : Payload → Except FailureKind Data) (p : Payload) :
    Except FailureKind Data :=
  if p.length = payloadLength c then dec p else .error .malformedPayloadLength

/-- The decoder a command selects (R141, R176). -/
def decoderOf : Command → Payload → Except FailureKind Data
  | .stop => decStop
  | .ping => decPing
  | .pong => decPong
  | .setDuty => decSetDuty
  | .notifySwitchState => decNotifySwitchState

/-- `PL_DECODE` (R141). -/
def decodePayload (c : Command) (p : Payload) : Except FailureKind Data :=
  checkedDecode c (decoderOf c) p

/-! ### Frames (R171, R174) -/

/-- What the frame constructor answers for (v, p): a frame, or `none` for a refusal (R171; log 2). -/
def ctorApply (g : FrameCtor) (v : Ident) (p : Payload) : Option Frame :=
  match g.answers.find? (fun a => a.idval == v && a.payload == p) with
  | some a => a.answer
  | none => if p.length ≤ g.cap then some ⟨.extended, v, p⟩ else none

/-- `FR_BUILD` as far as the block goes: the frame the constructor returned, or `none` where it refused (R173). -/
def buildFrame (cfg : Config) (snd rcv : NodeIdentity) (d : Data) : Option Frame :=
  ctorApply cfg.ctor (packIdent cfg.code (commandOf d) snd rcv) (encodePayload d)

/-- `FR_PARSE` (R174, R176): kind and command first, then length and enumeration byte. -/
def parseFrame (t : CodeTable) (f : Frame) : Except FailureKind (NodeIdentity × NodeIdentity × Data) :=
  match unpackIdent t f.kind f.idval with
  | .ok (c, snd, rcv) =>
    match decodePayload c f.payload with
    | .ok d => .ok (snd, rcv, d)
    | .error e => .error e
  | .error e => .error e

end Sys2Proof.Machine
end

