-- ==== Sys2Proof/Machine/State.lean ====
section
/-! DEFINITION. The state. RBK-CODEC holds none (10_state R20 to R23, R47): what stands here is the parameters of
the step (R14) and the two lists of the host's side of the interface (R40). -/

namespace Sys2Proof.Machine

/-- Plain data. No field is a register of the block. -/
structure State where
  /-- The parameters `CODE`, `FrameCtor` and `FRAME_CAP` (R6, R14, R35, R36, R171). No step changes them. -/
  cfg : Config
  /-- The requests the host presents and the block has not answered, oldest first (R40; log 4). -/
  requests : List Request
  /-- The responses the host has taken, oldest first (R40, 95 part 4; log 4). No operation reads them (R22). -/
  responses : List Response
  deriving DecidableEq, Repr

/-- What stops the machine. -/
inductive Fault where
  /-- `BuildFatal` (R195, R203; log 12): raised by FR_BUILD when the frame constructor refuses. Safe: the run ends, as the
  spec says it is over. -/
  | buildFatal
  deriving DecidableEq, Repr

/-- What has no meaning. -/
inductive Refusal where
  /-- An arm of `exec` with no meaning yet; none is left. Safe. -/
  | notModelled (mnemonic : String)
  /-- Raised by `step` for an operation select 0xC to 0xF (R85, D21). Safe. -/
  | reservedOpSelect
  /-- Raised by `step` for an operation select container with a bit above bit 3 set (log 8). Safe. -/
  | opSelectTooWide
  /-- Raised by `step` for an identifier container with a bit above bit 28 set (93 U14, 91 N6; log 8). Safe. -/
  | identifierTooWide
  /-- Raised by `step` for a Command or Data operand whose wire drives no registered code (R44; log 11). Safe. -/
  | unregisteredCommandOperand
  deriving DecidableEq, Repr

/-- The machine after reset: a reset has nothing to set (R45, R230); the parameters are the defaults (log 1, log 2),
no request is presented and no response is taken (log 4). -/
def State.reset : State where
  cfg := defaultConfig
  requests := []
  responses := []

end Sys2Proof.Machine
end

