-- ==== Sys2Proof/Machine/Ops.lean ====
section
/-! DEFINITION. The named operations over the state: giving a response, raising a failure kind (the only
exception entry the block has, R201), answering with either, and taking a request. -/

namespace Sys2Proof.Machine

/-- The response goes to the host; nothing else changes (R40, R47). -/
def State.respond (r : Response) (s : State) : State :=
  { s with responses := s.responses ++ [r] }

/-- Raising a failure kind (R201, R202, R197): the operation ends, its response carries the kind and no result; no
state is saved, no mode changes, control goes nowhere. There is no return from it (R204): the next request runs as
if the failure had not happened. -/
def State.raise (k : FailureKind) (s : State) : State :=
  s.respond (.err k)

/-- An operation that may fail ends: with its result, or by raising its failure (R43). -/
def State.answer (x : Except FailureKind Result) (s : State) : State :=
  match x with
  | .ok v => s.respond (.ok v)
  | .error k => s.raise k

/-- The oldest request is taken from the host; `rest` are those behind it (R40). -/
def State.takeRequest (rest : List Request) (s : State) : State :=
  { s with requests := rest }

/-- A successful or failed operation, its value made a result. -/
def resultOf {α : Type} (f : α → Result) (x : Except FailureKind α) : Except FailureKind Result :=
  match x with
  | .ok a => .ok (f a)
  | .error k => .error k

/-- The block receives a frame whose command is resolved (R74, R76; log 6): the length is judged, then the
command's decoder runs, and the addresses go out with the Data value. -/
def receiveCommand (c : Command) (dec : Payload → Except FailureKind Data) (snd rcv : NodeIdentity) (p : Payload)
    (s : State) : State :=
  s.answer (resultOf (fun d => .parsed snd rcv d) (checkedDecode c dec p))

end Sys2Proof.Machine
end

