-- ==== Sys2Proof/Machine/CommandRegistry.lean ====
section
/-! DEFINITION. The meanings of `CMD_CODE`, `CMD_LOOKUP`, `CMD_RANGE` (41_command_registry). -/

namespace Sys2Proof.Machine

/-- `CMD_CODE` (R113). -/
def execCmdCode (c : Command) (s : State) : Host.Outcome State Fault Refusal :=
  .next (s.respond (.ok (.code (codeOf s.cfg.code c))))

/-- `CMD_LOOKUP` (R114). -/
def execCmdLookup (v : Code) (s : State) : Host.Outcome State Fault Refusal :=
  .next (s.answer (resultOf .command (lookupCommand s.cfg.code v)))

/-- `CMD_RANGE` (R116): it does not consult `CODE`. -/
def execCmdRange (v : Code) (s : State) : Host.Outcome State Fault Refusal :=
  .next (s.respond (.ok (.range (rangeOf v))))

end Sys2Proof.Machine
end

