-- ==== Sys2Proof/Machine/Commands.lean ====
section
/-! DEFINITION. The meanings of the five command rows of the wire opcode table (43_payload_codec section 3; log 6):
the block receives an extended frame that names the command, and answers what FR_PARSE answers once the command is
resolved (R174). -/

namespace Sys2Proof.Machine

/-- `Stop` (R143). -/
def execStop (snd rcv : NodeIdentity) (p : Payload) (s : State) : Host.Outcome State Fault Refusal :=
  .next (receiveCommand .stop decStop snd rcv p s)

/-- `Ping` (R144): the block does not answer it with a Pong. -/
def execPing (snd rcv : NodeIdentity) (p : Payload) (s : State) : Host.Outcome State Fault Refusal :=
  .next (receiveCommand .ping decPing snd rcv p s)

/-- `Pong` (R145). -/
def execPong (snd rcv : NodeIdentity) (p : Payload) (s : State) : Host.Outcome State Fault Refusal :=
  .next (receiveCommand .pong decPong snd rcv p s)

/-- `SetDuty` (R146). -/
def execSetDuty (snd rcv : NodeIdentity) (p : Payload) (s : State) : Host.Outcome State Fault Refusal :=
  .next (receiveCommand .setDuty decSetDuty snd rcv p s)

/-- `NotifySwitchState` (R147). -/
def execNotifySwitchState (snd rcv : NodeIdentity) (p : Payload) (s : State) : Host.Outcome State Fault Refusal :=
  .next (receiveCommand .notifySwitchState decNotifySwitchState snd rcv p s)

end Sys2Proof.Machine
end

