-- ==== Sys2Proof/Machine/FrameProtocol.lean ====
section
/-! DEFINITION. The meanings of `FR_BUILD` and `FR_PARSE` (44_frame_protocol). -/

namespace Sys2Proof.Machine

/-- `FR_BUILD` (R173): the constructor's frame, or the fault `BuildFatal` where it refuses (R195). -/
def execFrBuild (snd rcv : NodeIdentity) (d : Data) (s : State) : Host.Outcome State Fault Refusal :=
  match buildFrame s.cfg snd rcv d with
  | some f => .next (s.respond (.ok (.frame f)))
  | none => .fault .buildFatal

/-- `FR_PARSE` (R174): total, fails closed (R177, R202). -/
def execFrParse (f : Frame) (s : State) : Host.Outcome State Fault Refusal :=
  .next (s.answer (resultOf (fun x => .parsed x.1 x.2.1 x.2.2) (parseFrame s.cfg.code f)))

end Sys2Proof.Machine
end

