-- ==== Sys2Proof/Machine/IdentifierCodec.lean ====
section
/-! DEFINITION. The meanings of `ID_PACK` and `ID_UNPACK` (42_identifier_codec). -/

namespace Sys2Proof.Machine

/-- `ID_PACK` (R130). -/
def execIdPack (c : Command) (snd rcv : NodeIdentity) (s : State) : Host.Outcome State Fault Refusal :=
  .next (s.respond (.ok (.ident (packIdent s.cfg.code c snd rcv))))

/-- `ID_UNPACK` (R131). -/
def execIdUnpack (k : IdentifierKind) (v : Ident) (s : State) : Host.Outcome State Fault Refusal :=
  .next (s.answer (resultOf (fun x => .unpacked x.1 x.2.1 x.2.2) (unpackIdent s.cfg.code k v)))

end Sys2Proof.Machine
end

