-- ==== Sys2Proof/Machine/NodeIdentity.lean ====
section
/-! DEFINITION. The meanings of `NID_NEW`, `NID_BROADCAST`, `NID_IS_BROADCAST` (40_node_identity). -/

namespace Sys2Proof.Machine

/-- `NID_NEW` (R100). -/
def execNidNew (raw : Byte) (s : State) : Host.Outcome State Fault Refusal :=
  .next (s.respond (.ok (.node ⟨raw⟩)))

/-- `NID_BROADCAST` (R101). -/
def execNidBroadcast (s : State) : Host.Outcome State Fault Refusal :=
  .next (s.respond (.ok (.node ⟨broadcastRaw⟩)))

/-- `NID_IS_BROADCAST` (R102). -/
def execNidIsBroadcast (n : NodeIdentity) (s : State) : Host.Outcome State Fault Refusal :=
  .next (s.respond (.ok (.bit (if n.raw = broadcastRaw then 1 else 0))))

end Sys2Proof.Machine
end

