-- ==== Sys2Proof/Machine/PayloadCodec.lean ====
section
/-! DEFINITION. The meanings of `PL_ENCODE` and `PL_DECODE` (43_payload_codec). -/

namespace Sys2Proof.Machine

/-- `PL_ENCODE` (R140). -/
def execPlEncode (d : Data) (s : State) : Host.Outcome State Fault Refusal :=
  .next (s.respond (.ok (.payload (encodePayload d))))

/-- `PL_DECODE` (R141). -/
def execPlDecode (c : Command) (p : Payload) (s : State) : Host.Outcome State Fault Refusal :=
  .next (s.answer (resultOf .data (decodePayload c p)))

end Sys2Proof.Machine
end

