-- ==== Sys2Proof/Machine/Dispatch.lean ====
section
/-! DEFINITION. One arm per instruction. -/

namespace Sys2Proof.Machine

def exec (i : Instr) (s : State) : Host.Outcome State Fault Refusal :=
  match i with
  | .stop snd rcv p => Sys2Proof.Machine.execStop snd rcv p s
  | .ping snd rcv p => Sys2Proof.Machine.execPing snd rcv p s
  | .pong snd rcv p => Sys2Proof.Machine.execPong snd rcv p s
  | .setDuty snd rcv p => Sys2Proof.Machine.execSetDuty snd rcv p s
  | .notifySwitchState snd rcv p => Sys2Proof.Machine.execNotifySwitchState snd rcv p s
  | .nidNew raw => Sys2Proof.Machine.execNidNew raw s
  | .nidBroadcast => Sys2Proof.Machine.execNidBroadcast s
  | .nidIsBroadcast n => Sys2Proof.Machine.execNidIsBroadcast n s
  | .cmdCode c => Sys2Proof.Machine.execCmdCode c s
  | .cmdLookup v => Sys2Proof.Machine.execCmdLookup v s
  | .cmdRange v => Sys2Proof.Machine.execCmdRange v s
  | .idPack c snd rcv => Sys2Proof.Machine.execIdPack c snd rcv s
  | .idUnpack k v => Sys2Proof.Machine.execIdUnpack k v s
  | .plEncode d => Sys2Proof.Machine.execPlEncode d s
  | .plDecode c p => Sys2Proof.Machine.execPlDecode c p s
  | .frBuild snd rcv d => Sys2Proof.Machine.execFrBuild snd rcv d s
  | .frParse f => Sys2Proof.Machine.execFrParse f s

end Sys2Proof.Machine
end

