-- ==== Sys2Proof/Machine/Wires.lean ====
section
/-! DEFINITION. The representation on wires (R44, decision D16; log 15): how each value type travels, and what a
bundle of wires is read as. -/

namespace Sys2Proof.Machine

/-- A Dir travels as bit 0 of its byte code (R44). -/
def dirWire (d : Dir) : BitVec 1 := (dirEncode d).extractLsb' 0 1

/-- The Dir a wire carries (R44). -/
def readDir (b : BitVec 1) : Dir := if b = 0 then .cw else .ccw

/-- A SwitchState travels as bit 0 of its byte code (R44). -/
def stateWire (st : SwitchState) : BitVec 1 := (stateEncode st).extractLsb' 0 1

/-- The SwitchState a wire carries (R44). -/
def readState (b : BitVec 1) : SwitchState := if b = 0 then .off else .on

/-- A range tag travels as 2 bits (R44). -/
def rangeWire : RangeTag → BitVec 2
  | .system => 0
  | .control => 1
  | .telemetry => 2
  | .config => 3

/-- An identifier kind travels as the bit `ext` (R44). -/
def kindWire : IdentifierKind → BitVec 1
  | .standard => 0
  | .extended => 1

/-- The kind the bit `ext` carries (R44). -/
def readKind (b : BitVec 1) : IdentifierKind := if b = 0 then .standard else .extended

/-- The Command a 13-bit wire carries: only the five registered codes may be driven (R44). -/
def readCommand (t : CodeTable) (v : Code) : Option Command := (lookupCommand t v).toOption

/-- The eight lanes, `b0` first (R44). -/
def lanes (w : PayloadWires) : List Byte := [w.b0, w.b1, w.b2, w.b3, w.b4, w.b5, w.b6, w.b7]

/-- The payload on a bundle of wires: as many bytes as the length says; lanes at or above it are not part of the
value (R44, R154). Lengths 9 to 15 are lengths like any other (R142); the bytes no lane carries are free
(`Config.absentLane`, log 9). -/
def readPayload (w : PayloadWires) : Payload :=
  (lanes w ++ (List.range 7).map Config.absentLane).take w.len.toNat

/-- The wires of a payload of at most eight bytes; lanes at or above the length are driven with zero here, and
may hold anything (R44). -/
def payloadWires (p : Payload) : PayloadWires where
  len := BitVec.ofNat 4 p.length
  b0 := p.getD 0 0
  b1 := p.getD 1 0
  b2 := p.getD 2 0
  b3 := p.getD 3 0
  b4 := p.getD 4 0
  b5 := p.getD 5 0
  b6 := p.getD 6 0
  b7 := p.getD 7 0

/-- The frame on a bundle of wires (R44). -/
def readFrame (w : FrameWires) : Frame := ⟨readKind w.ext, w.idval, readPayload w.payload⟩

/-- The wires of a frame (R44). -/
def frameWires (f : Frame) : FrameWires where
  ext := kindWire f.kind
  idval := f.idval
  payload := payloadWires f.payload

/-- The Data value on a bundle of wires: the tag is a Command on wires, and selects the fields (log 7). -/
def readData (t : CodeTable) (w : DataWires) : Option Data :=
  match readCommand t w.cmd with
  | some .stop => some .stop
  | some .ping => some .ping
  | some .pong => some .pong
  | some .setDuty => some (.setDuty ⟨w.channel⟩ ⟨w.duty⟩ (readDir w.dir))
  | some .notifySwitchState => some (.notifySwitchState ⟨w.channel⟩ (readState w.state))
  | none => none

/-- The wires of a Data value; a field its variant lacks is driven with zero (log 7). -/
def dataWires (t : CodeTable) (d : Data) : DataWires :=
  match d with
  | .stop => { cmd := codeOf t .stop }
  | .ping => { cmd := codeOf t .ping }
  | .pong => { cmd := codeOf t .pong }
  | .setDuty ch du di =>
    { cmd := codeOf t .setDuty, channel := ch.val, duty := du.val, dir := dirWire di }
  | .notifySwitchState ch st =>
    { cmd := codeOf t .notifySwitchState, channel := ch.val, state := stateWire st }

end Sys2Proof.Machine
end

