-- ==== Sys2Proof/WellFormed.lean ====
section
/-! DEFINITION. Which instructions the wires of R44 can carry as they are. The machine runs ill-formed ones
too: a payload of any length (R38, D10) and a standard identifier with any value (R131) have their meaning. -/

namespace Sys2Proof

/-- The payload fits the eight byte lanes (R44). -/
def Payload.fitsLanes (p : Payload) : Bool := decide (p.length ≤ 8)

/-- A standard identifier is an 11-bit number with bits 28:11 zero (R27, D11; log 16). -/
def Ident.matchesKind (k : IdentifierKind) (v : Ident) : Bool :=
  match k with
  | .standard => decide (v.toNat < 2048)
  | .extended => true

/-- A frame whose payload fits the lanes and whose identifier is of its kind. -/
def Frame.wellFormed (f : Frame) : Bool :=
  Ident.matchesKind f.kind f.idval && Payload.fitsLanes f.payload

/-- The check on instructions. Every other operand is legal by its type (R24, R28, R41). -/
def Instr.wellFormed : Instr → Bool
  | .stop _ _ p => Payload.fitsLanes p
  | .ping _ _ p => Payload.fitsLanes p
  | .pong _ _ p => Payload.fitsLanes p
  | .setDuty _ _ p => Payload.fitsLanes p
  | .notifySwitchState _ _ p => Payload.fitsLanes p
  | .nidNew _ => true
  | .nidBroadcast => true
  | .nidIsBroadcast _ => true
  | .cmdCode _ => true
  | .cmdLookup _ => true
  | .cmdRange _ => true
  | .idPack _ _ _ => true
  | .idUnpack k v => Ident.matchesKind k v
  | .plEncode _ => true
  | .plDecode _ p => Payload.fitsLanes p
  | .frBuild _ _ _ => true
  | .frParse f => Frame.wellFormed f

end Sys2Proof
end

