-- ==== Sys2Proof/Decode.lean ====
section
/-! DEFINITION. From a request to an instruction, total, rejecting by name; then the encoder, written from the
same tables (30_encoding R70 to R75, 10_state R41, R44), and the fixed entry points of the host. -/

namespace Sys2Proof

open Sys2Proof.Machine

/-- Why a request is no instruction. -/
inductive Reject where
  /-- The received frame is illegal for this protocol (R81, R82); the block answers it with this failure. -/
  | failure (k : FailureKind)
  /-- `op` is 0xC to 0xF (R85). -/
  | reservedOpSelect
  /-- The container of the operation select holds bits above bit 3 (log 8). -/
  | opSelectTooWide
  /-- The container of the identifier holds bits above bit 28 (93 U14, 91 N6; log 8). -/
  | identifierTooWide
  /-- A Command wire drives none of the registered codes (R44; log 11). -/
  | unregisteredCommandOperand
  deriving DecidableEq, Repr

/-! ### Decoding -/

/-- The instruction of a received frame whose command is resolved (R74, R76). -/
def commandInstr (c : Command) (snd rcv : NodeIdentity) (p : Payload) : Instr :=
  match c with
  | .stop => .stop snd rcv p
  | .ping => .ping snd rcv p
  | .pong => .pong snd rcv p
  | .setDuty => .setDuty snd rcv p
  | .notifySwitchState => .notifySwitchState snd rcv p

/-- Format XID29 (R70): the code field resolves the command, whatever the payload is (R76). -/
def decodeXid29 (t : CodeTable) (ext : BitVec 1) (word : BitVec 32) (w : PayloadWires) : Except Reject Instr :=
  if 2 ^ idBits ≤ word.toNat then .error .identifierTooWide
  else
    match unpackIdent t (readKind ext) (word.setWidth 29) with
    | .ok (c, snd, rcv) => .ok (commandInstr c snd rcv (readPayload w))
    | .error k => .error (.failure k)

/-- An operation with a Command operand: refused where the wire drives no registered code (R44). -/
def withCommand (t : CodeTable) (v : Code) (f : Command → Instr) : Except Reject Instr :=
  match readCommand t v with
  | some c => .ok (f c)
  | none => .error .unregisteredCommandOperand

/-- An operation with a Data operand: its tag is a Command on wires (log 7). -/
def withData (t : CodeTable) (w : DataWires) (f : Data → Instr) : Except Reject Instr :=
  match readData t w with
  | some d => .ok (f d)
  | none => .error .unregisteredCommandOperand

/-- Format OPSEL (R75) and the operands of R41. -/
def decodeOpsel (t : CodeTable) (op : Byte) (w : OperandWires) : Except Reject Instr :=
  match op.toNat with
  | 0x0 => .ok (.nidNew w.raw)
  | 0x1 => .ok .nidBroadcast
  | 0x2 => .ok (.nidIsBroadcast ⟨w.n⟩)
  | 0x3 => withCommand t w.c .cmdCode
  | 0x4 => .ok (.cmdLookup w.v)
  | 0x5 => .ok (.cmdRange w.v)
  | 0x6 => withCommand t w.c (fun c => .idPack c ⟨w.s⟩ ⟨w.r⟩)
  | 0x7 => .ok (.idUnpack (readKind w.k) w.idval)
  | 0x8 => withData t w.d .plEncode
  | 0x9 => withCommand t w.c (fun c => .plDecode c (readPayload w.p))
  | 0xA => withData t w.d (fun d => .frBuild ⟨w.s⟩ ⟨w.r⟩ d)
  | 0xB => .ok (.frParse (readFrame w.f))
  | n => if n < 16 then .error .reservedOpSelect else .error .opSelectTooWide

/-- The instruction a request stands for, or the reason it stands for none. -/
def decode (t : CodeTable) : Request → Except Reject Instr
  | .call i => .ok i
  | .opsel op w => decodeOpsel t op w
  | .xid29 ext word w => decodeXid29 t ext word w

/-! ### Encoding -/

/-- The wires of a received frame of command `c` (R70, R74): extended, the identifier packed, the payload. -/
def encodeXid29 (t : CodeTable) (c : Command) (snd rcv : NodeIdentity) (p : Payload) : Request :=
  .xid29 (kindWire .extended) ((packIdent t c snd rcv).setWidth 32) (payloadWires p)

/-- The request wires of an instruction (R41, R44, R70, R75). -/
def encode (t : CodeTable) : Instr → Request
  | .stop snd rcv p => encodeXid29 t .stop snd rcv p
  | .ping snd rcv p => encodeXid29 t .ping snd rcv p
  | .pong snd rcv p => encodeXid29 t .pong snd rcv p
  | .setDuty snd rcv p => encodeXid29 t .setDuty snd rcv p
  | .notifySwitchState snd rcv p => encodeXid29 t .notifySwitchState snd rcv p
  | .nidNew raw => .opsel 0x0 { raw := raw }
  | .nidBroadcast => .opsel 0x1 {}
  | .nidIsBroadcast n => .opsel 0x2 { n := n.raw }
  | .cmdCode c => .opsel 0x3 { c := codeOf t c }
  | .cmdLookup v => .opsel 0x4 { v := v }
  | .cmdRange v => .opsel 0x5 { v := v }
  | .idPack c snd rcv => .opsel 0x6 { c := codeOf t c, s := snd.raw, r := rcv.raw }
  | .idUnpack k v => .opsel 0x7 { k := kindWire k, idval := v }
  | .plEncode d => .opsel 0x8 { d := dataWires t d }
  | .plDecode c p => .opsel 0x9 { c := codeOf t c, p := payloadWires p }
  | .frBuild snd rcv d => .opsel 0xA { s := snd.raw, r := rcv.raw, d := dataWires t d }
  | .frParse f => .opsel 0xB { f := frameWires f }

/-! ### The host's words (log 10) -/

/-- The payload that goes with a table word: as many zero bytes as the command the word names takes (R33), the
word itself giving only the identifier. -/
def zeroOperandBytes (t : CodeTable) (word : BitVec 32) : PayloadWires :=
  match lookupCommand t (codeField (word.setWidth 29)) with
  | .ok c => payloadWires (blankPayload c)
  | .error _ => {}

/-- The request of an opcode-table word: a row of at most 8 bits is an operation select (R75) with every operand
wire zero, a longer one the identifier of an extended frame (the table's "kind") with its operand bytes zero. -/
def requestOfWord (t : CodeTable) (nbits w : Nat) : Request :=
  if nbits ≤ 8 then .opsel (BitVec.ofNat 8 w) {}
  else .xid29 (kindWire .extended) (BitVec.ofNat 32 w) (zeroOperandBytes t (BitVec.ofNat 32 w))

/-- The instruction the decoder reads from a word of spec/opcode_table.json, whose numbers are those of the
default table (R112). -/
def decodeTableWord (nbits w : Nat) : Option Instr :=
  (decode defaultCode (requestOfWord defaultCode nbits w)).toOption

end Sys2Proof
end

