-- ==== Sys2Proof/Machine/Fetch.lean ====
section
/-! DEFINITION. What `step` does around `exec`: the outcome of a request that is no instruction, and how the host's
word is presented (log 10). -/

namespace Sys2Proof.Machine

/-- The outcome of a request that is no instruction: a frame illegal for this protocol is answered with its failure
(R81, R82); the rest is refused by name. -/
def onReject (r : Reject) (s : State) : Host.Outcome State Fault Refusal :=
  match r with
  | .failure k => .next (s.raise k)
  | .reservedOpSelect => .refused .reservedOpSelect
  | .opSelectTooWide => .refused .opSelectTooWide
  | .identifierTooWide => .refused .identifierTooWide
  | .unregisteredCommandOperand => .refused .unregisteredCommandOperand

/-- No request is presented. DESIGN CHOICE (log 5): the block idles, nothing changes. -/
def idle (s : State) : Host.Outcome State Fault Refusal := .next s

/-- The host presents a request before the ones it already presents. -/
def presentFirst (r : Request) (s : State) : State :=
  { s with requests := r :: s.requests }

end Sys2Proof.Machine
end

