-- ==== Sys2Proof/Machine/Step.lean ====
section
/-! DEFINITION. One step: the oldest request is taken and answered (R13, R40, R59). -/

namespace Sys2Proof.Machine

/-- One step of the machine. -/
def step (s : State) : Host.Outcome State Fault Refusal :=
  match s.requests with
  | [] => idle s
  | r :: rest =>
    match decode s.cfg.code r with
    | .ok i => exec i (s.takeRequest rest)
    | .error e => onReject e (s.takeRequest rest)

/-- The host's word is presented as the next request (log 10). -/
def State.withFetchWord (s : State) (nbits w : Nat) : State :=
  presentFirst (requestOfWord s.cfg.code nbits w) s

end Sys2Proof.Machine
end

