-- ==== Sys2Proof/Machine/Flags.lean ====
section
/-! DEFINITION. The block has no flags (R22). What stands here is the status that goes out with a response (R43,
R196), the optional view (R175), and what the response wires carry (R44; log 19). -/

namespace Sys2Proof.Machine

/-- The status of a response (R43). -/
inductive Status where
  | ok
  | err (k : FailureKind)
  | buildFatal
  deriving DecidableEq, Repr

/-- The 3-bit status code (R196). -/
def statusCode : Status → BitVec 3
  | .ok => 0
  | .err .wrongIdentifierKind => 1
  | .err .unknownCommand => 2
  | .err .malformedPayloadLength => 3
  | .err .invalidEnumValue => 4
  | .buildFatal => 7

/-- The status a 3-bit code stands for; 5 and 6 are never produced and stand for none (R196, 93 U12). -/
def readStatus (b : BitVec 3) : Option Status :=
  match b.toNat with
  | 0 => some .ok
  | 1 => some (.err .wrongIdentifierKind)
  | 2 => some (.err .unknownCommand)
  | 3 => some (.err .malformedPayloadLength)
  | 4 => some (.err .invalidEnumValue)
  | 7 => some .buildFatal
  | _ => none

/-- The status of a response. -/
def statusOf : Response → Status
  | .ok _ => .ok
  | .err k => .err k

/-- The status of a fault (R43). -/
def statusOfFault : Fault → Status
  | .buildFatal => .buildFatal

/-- The output `valid`: 1 exactly when the status is `Ok` (R43); `is_some()` of R88. -/
def validBit (st : Status) : BitVec 1 :=
  match st with
  | .ok => 1
  | .err _ => 0
  | .buildFatal => 0

/-- The document's optional view of a response (R175, R8): every failure is `none`. -/
def optionalView : Response → Option Result
  | .ok v => some v
  | .err _ => none

/-- The response wires: status, valid, and one bundle per result type of R42. -/
structure ResponseWires where
  status : BitVec 3 := 0
  valid : BitVec 1 := 0
  node : Byte := 0
  bit : BitVec 1 := 0
  code : Code := 0
  command : Code := 0
  range : BitVec 2 := 0
  ident : Ident := 0
  sender : Byte := 0
  receiver : Byte := 0
  payload : PayloadWires := {}
  data : DataWires := {}
  frame : FrameWires := {}
  deriving DecidableEq, Repr

/-- The result wires read back as the result; every other wire, and every lane at or above a length, may hold
anything (R43, R44, 93 U8, U9). -/
def carriesResult (t : CodeTable) (w : ResponseWires) : Result → Bool
  | .node n => w.node == n.raw
  | .bit b => w.bit == b
  | .code v => w.code == v
  | .command c => readCommand t w.command == some c
  | .range g => w.range == rangeWire g
  | .ident v => w.ident == v
  | .unpacked c snd rcv => readCommand t w.command == some c && w.sender == snd.raw && w.receiver == rcv.raw
  | .payload p => readPayload w.payload == p
  | .data d => readData t w.data == some d
  | .frame f => readFrame w.frame == f
  | .parsed snd rcv d => w.sender == snd.raw && w.receiver == rcv.raw && readData t w.data == some d

/-- The wires carry the response: its status code, its valid bit, and its result where it has one. -/
def carries (t : CodeTable) (w : ResponseWires) (r : Response) : Bool :=
  w.status == statusCode (statusOf r) && w.valid == validBit (statusOf r) &&
    match r with
    | .ok v => carriesResult t w v
    | .err _ => true

/-- The wires report a fault: its status code, `valid` 0, and no result (R43). -/
def carriesFault (w : ResponseWires) (f : Fault) : Bool :=
  w.status == statusCode (statusOfFault f) && w.valid == validBit (statusOfFault f)

/-- One way to drive the result wires: the result's own wires, every other wire zero. -/
def driveResult (t : CodeTable) : Result → ResponseWires
  | .node n => { node := n.raw }
  | .bit b => { bit := b }
  | .code v => { code := v }
  | .command c => { command := codeOf t c }
  | .range g => { range := rangeWire g }
  | .ident v => { ident := v }
  | .unpacked c snd rcv => { command := codeOf t c, sender := snd.raw, receiver := rcv.raw }
  | .payload p => { payload := payloadWires p }
  | .data d => { data := dataWires t d }
  | .frame f => { frame := frameWires f }
  | .parsed snd rcv d => { sender := snd.raw, receiver := rcv.raw, data := dataWires t d }

/-- One way to drive the response wires. DESIGN CHOICE (log 19): a wire the spec leaves open is driven with zero
here; `carries` says what a reader may rely on. -/
def drive (t : CodeTable) (r : Response) : ResponseWires :=
  match r with
  | .ok v => { driveResult t v with status := statusCode .ok, valid := validBit .ok }
  | .err k => { status := statusCode (.err k), valid := validBit (.err k) }

end Sys2Proof.Machine
end

