-- ==== Sys2Proof/Machine/Text.lean ====
section
/-! DEFINITION. The textual syntax of R87 as terms, their expansion to instructions (R88), and how terms and results
are written (log 20). The semantics of the block does not depend on it (D22). -/

namespace Sys2Proof.Machine

/-! ### Terms and their expansion -/

/-- `value` of R87. -/
inductive NodeTerm where
  | node (n : Byte)
  | new (n : Byte)
  | broadcast
  deriving DecidableEq, Repr

/-- `operation` of R87, and a `value` standing alone. -/
inductive OpTerm where
  | value (n : NodeTerm)
  | build (sender receiver : Byte) (d : Data)
  | parse (f : Frame)
  | pack (c : Command) (sender receiver : NodeTerm)
  | unpack (k : IdentifierKind) (v : Ident)
  | encode (d : Data)
  | decode (c : Command) (p : Payload)
  | isBroadcast (n : NodeTerm)
  deriving DecidableEq, Repr

/-- The NodeIdentity a value denotes: `NodeIdentity(n)` is `NodeIdentity::new(n)`, and `NodeIdentity::broadcast()`
is `NodeIdentity::new(0xFF)` (R88). -/
def nodeOfTerm : NodeTerm → NodeIdentity
  | .node n => ⟨n⟩
  | .new n => ⟨n⟩
  | .broadcast => ⟨broadcastRaw⟩

/-- The operation a term names, with its operands; in `build` a bare number stands for a NodeIdentity (R87). -/
def instrOfTerm : OpTerm → Instr
  | .value (.node n) => .nidNew n
  | .value (.new n) => .nidNew n
  | .value .broadcast => .nidBroadcast
  | .build snd rcv d => .frBuild ⟨snd⟩ ⟨rcv⟩ d
  | .parse f => .frParse f
  | .pack c snd rcv => .idPack c (nodeOfTerm snd) (nodeOfTerm rcv)
  | .unpack k v => .idUnpack k v
  | .encode d => .plEncode d
  | .decode c p => .plDecode c p
  | .isBroadcast n => .nidIsBroadcast (nodeOfTerm n)

/-! ### Writing -/

/-- One hexadecimal digit, upper case. -/
def hexDigit (n : Nat) : Char :=
  if n < 10 then Char.ofNat (48 + n) else Char.ofNat (55 + n)

/-- The `n` low hexadecimal digits of `v`, the most significant first. -/
def hexDigits : Nat → Nat → List Char
  | 0, _ => []
  | n + 1, v => hexDigits n (v / 16) ++ [hexDigit (v % 16)]

/-- A byte as the document writes payload bytes (R7). -/
def byteHex (b : Byte) : List Char := "0x".toList ++ hexDigits 2 b.toNat

/-- An identifier as the document writes it: eight digits. -/
def identHex (v : Ident) : List Char := "0x".toList ++ hexDigits 8 v.toNat

/-- A decimal number (R87). -/
def decimal (n : Nat) : List Char := Nat.toDigits 10 n

/-- Items between commas. -/
def commaList : List (List Char) → List Char
  | [] => []
  | [x] => x
  | x :: y :: rest => x ++ ", ".toList ++ commaList (y :: rest)

/-- A word applied to its arguments. -/
def applied (head : String) (args : List (List Char)) : List Char :=
  head.toList ++ "(".toList ++ commaList args ++ ")".toList

/-- `dir` of R87. -/
def dirText : Dir → List Char
  | .cw => "Cw".toList
  | .ccw => "Ccw".toList

/-- `state` of R87. -/
def stateText : SwitchState → List Char
  | .off => "Off".toList
  | .on => "On".toList

/-- A command's name (R25). -/
def commandText : Command → List Char
  | .stop => "Stop".toList
  | .ping => "Ping".toList
  | .pong => "Pong".toList
  | .setDuty => "SetDuty".toList
  | .notifySwitchState => "NotifySwitchState".toList

/-- An identifier kind's name (R27). -/
def kindText : IdentifierKind → List Char
  | .standard => "Standard".toList
  | .extended => "Extended".toList

/-- `data` of R87. -/
def dataText : Data → List Char
  | .stop => commandText .stop
  | .ping => commandText .ping
  | .pong => commandText .pong
  | .setDuty ch du di =>
    applied "SetDuty"
      [applied "Channel" [decimal ch.val.toNat], applied "Duty" [decimal du.val.toNat], dirText di]
  | .notifySwitchState ch st =>
    applied "NotifySwitchState" [applied "Channel" [decimal ch.val.toNat], stateText st]

/-- `payload` of R87. -/
def payloadText (p : Payload) : List Char :=
  "[".toList ++ commaList (p.map byteHex) ++ "]".toList

/-- A frame literal of 95_test_vectors. -/
def frameText (f : Frame) : List Char :=
  "Frame".toList ++ [Char.ofNat 123] ++ commaList [kindText f.kind, identHex f.idval, payloadText f.payload] ++
    [Char.ofNat 125]

/-- A NodeIdentity in a result. -/
def nodeText (n : NodeIdentity) : List Char := applied "NodeIdentity" [decimal n.raw.toNat]

/-- `value` of R87. -/
def nodeTermText : NodeTerm → List Char
  | .node n => applied "NodeIdentity" [decimal n.toNat]
  | .new n => applied "NodeIdentity::new" [decimal n.toNat]
  | .broadcast => applied "NodeIdentity::broadcast" []

/-- `operation` of R87. -/
def opText : OpTerm → List Char
  | .value n => nodeTermText n
  | .build snd rcv d =>
    applied "build"
      ["sender=".toList ++ decimal snd.toNat, "receiver=".toList ++ decimal rcv.toNat, dataText d]
  | .parse f => applied "parse" [frameText f]
  | .pack c snd rcv => applied "pack" [commandText c, nodeTermText snd, nodeTermText rcv]
  | .unpack k v => applied "unpack" [kindText k, identHex v]
  | .encode d => applied "encode" [dataText d]
  | .decode c p => applied "decode" [commandText c, payloadText p]
  | .isBroadcast n => nodeTermText n ++ ".is_broadcast()".toList

/-- `result` of R87, for a response of FR_PARSE in its optional view (R175); `none` for a response that is not one
of FR_PARSE. -/
def parseResultText (r : Response) : Option (List Char) :=
  match optionalView r with
  | none => some "None".toList
  | some (.parsed snd rcv d) =>
    some (applied "Some" [applied "" [nodeText snd, nodeText rcv, dataText d]])
  | some _ => none

end Sys2Proof.Machine
end

