-- ==== Sys2Proof/Safety.lean ====
section
/-! DEFINITION. The premises and the invariant that claims are stated with. -/

namespace Sys2Proof

open Sys2Proof.Machine

/-- `CODE` is injective (R111). -/
def CodeTable.Admissible (t : CodeTable) : Prop :=
  ∀ c c' : Command, codeOf t c = codeOf t c' → c = c'

/-- The decidable check of R111: the five codes are pairwise different. -/
def CodeTable.distinct (t : CodeTable) : Bool :=
  decide (allCommands.map (codeOf t)).Nodup

/-- Faithfulness of the frame constructor (R171, D9; log 3): a frame it returns reads back as it was asked for. -/
def FrameCtor.Faithful (g : FrameCtor) : Prop :=
  ∀ (v : Ident) (p : Payload) (f : Frame), ctorApply g v p = some f →
    f.kind = .extended ∧ f.idval = v ∧ f.payload = p

/-- The named premise `CtorAcceptsUpTo(n)` (R172). -/
def FrameCtor.AcceptsUpTo (g : FrameCtor) (n : Nat) : Prop :=
  ∀ (v : Ident) (p : Payload), p.length ≤ n → ∃ f, ctorApply g v p = some f

/-- The parameters meet the spec's constraints: R111 and the law of R171. -/
def Config.Ok (cfg : Config) : Prop :=
  cfg.code.Admissible ∧ cfg.ctor.Faithful

/-- A frame of this protocol (R74): the image of some sender, receiver and Data value. -/
def Frame.IsImage (t : CodeTable) (f : Frame) : Prop :=
  ∃ (snd rcv : NodeIdentity) (d : Data),
    f = ⟨.extended, packIdent t (commandOf d) snd rcv, encodePayload d⟩

/-- What a result of the block can be: a code is registered (R113), an identifier carries a registered code
(R130), a payload has 0, 2 or 4 bytes (R38), a frame is one of the protocol (R74, R82). -/
def Result.Legal (t : CodeTable) : Result → Prop
  | .node _ => True
  | .bit _ => True
  | .code v => ∃ c, codeOf t c = v
  | .command _ => True
  | .range _ => True
  | .ident v => ∃ c, codeOf t c = codeField v
  | .unpacked _ _ _ => True
  | .payload p => p.length = 0 ∨ p.length = 2 ∨ p.length = 4
  | .data _ => True
  | .frame f => f.IsImage t
  | .parsed _ _ _ => True

/-- A failure carries nothing but its kind (R197), so every failure is legal. -/
def Response.Legal (t : CodeTable) : Response → Prop
  | .ok v => v.Legal t
  | .err _ => True

/-- The response table: what each operation may answer (R42), and what each command row may (R143 to R147). -/
def Instr.admits (i : Instr) (r : Response) : Bool :=
  match i, r with
  | .stop _ _ _, .ok (.parsed _ _ .stop) => true
  | .stop _ _ _, .err .malformedPayloadLength => true
  | .ping _ _ _, .ok (.parsed _ _ .ping) => true
  | .ping _ _ _, .err .malformedPayloadLength => true
  | .pong _ _ _, .ok (.parsed _ _ .pong) => true
  | .pong _ _ _, .err .malformedPayloadLength => true
  | .setDuty _ _ _, .ok (.parsed _ _ (.setDuty _ _ _)) => true
  | .setDuty _ _ _, .err .malformedPayloadLength => true
  | .setDuty _ _ _, .err .invalidEnumValue => true
  | .notifySwitchState _ _ _, .ok (.parsed _ _ (.notifySwitchState _ _)) => true
  | .notifySwitchState _ _ _, .err .malformedPayloadLength => true
  | .notifySwitchState _ _ _, .err .invalidEnumValue => true
  | .nidNew _, .ok (.node _) => true
  | .nidBroadcast, .ok (.node _) => true
  | .nidIsBroadcast _, .ok (.bit _) => true
  | .cmdCode _, .ok (.code _) => true
  | .cmdLookup _, .ok (.command _) => true
  | .cmdLookup _, .err .unknownCommand => true
  | .cmdRange _, .ok (.range _) => true
  | .idPack _ _ _, .ok (.ident _) => true
  | .idUnpack _ _, .ok (.unpacked _ _ _) => true
  | .idUnpack _ _, .err .wrongIdentifierKind => true
  | .idUnpack _ _, .err .unknownCommand => true
  | .plEncode _, .ok (.payload _) => true
  | .plDecode _ _, .ok (.data _) => true
  | .plDecode _ _, .err .malformedPayloadLength => true
  | .plDecode _ _, .err .invalidEnumValue => true
  | .frBuild _ _ _, .ok (.frame _) => true
  | .frParse _, .ok (.parsed _ _ _) => true
  | .frParse _, .err _ => true
  | _, _ => false

/-- The invariant: the parameters meet their constraints and every response the host has taken is one the block
can give. -/
def Machine.State.Inv (s : State) : Prop :=
  s.cfg.Ok ∧ ∀ r ∈ s.responses, r.Legal s.cfg.code

/-- A safe step: it answers a next state, neither a fault (`BuildFatal`) nor a refusal. -/
def Machine.State.Completes (s : State) : Prop :=
  ∃ t, step s = .next t

end Sys2Proof
end

