-- ==== Sys2Proof/Certificates/Slice0/Obligations.lean ====
section
/-! DEFINITION. The statements for the provers. A next state is written out as a record, so that each result says
its own frame: the parameters, the requests still presented and the responses already taken are unchanged, and one
response is added. Operation select numbers are the spec's decision D5 (R75), the default codes its decision D2
(R112). -/

open Sys2Proof Sys2Proof.Machine

/-! ### NodeIdentity (40) -/

/-- R100: NID_NEW answers the NodeIdentity of its raw byte; it is injective; 0xFF aliases the broadcast value. -/
def Obligations.NidNewAnswersItsRawByte : Prop :=
  ∀ (s : State) (raw : Byte),
    exec (.nidNew raw) s = .next { s with responses := s.responses ++ [.ok (.node ⟨raw⟩)] } ∧
    (∀ (t : CodeTable) (w : OperandWires), decode t (.opsel 0x0 { w with raw := raw }) = .ok (.nidNew raw)) ∧
    (∀ raw' : Byte, exec (.nidNew raw') s = exec (.nidNew raw) s → raw' = raw) ∧
    exec (.nidNew 0xFF) s = exec .nidBroadcast s ∧
    exec (.nidIsBroadcast ⟨0xFF⟩) s = .next { s with responses := s.responses ++ [.ok (.bit 1)] }

/-- R101: NID_BROADCAST answers 0xFF, the value NID_NEW(0xFF) answers. -/
def Obligations.NidBroadcastAnswersSentinel : Prop :=
  ∀ s : State,
    exec .nidBroadcast s = .next { s with responses := s.responses ++ [.ok (.node ⟨0xFF⟩)] } ∧
    (∀ (t : CodeTable) (w : OperandWires), decode t (.opsel 0x1 w) = .ok .nidBroadcast) ∧
    exec .nidBroadcast s = exec (.nidNew 0xFF) s

/-- R102: NID_IS_BROADCAST answers 1 exactly for raw = 0xFF. -/
def Obligations.NidIsBroadcastComparesWithSentinel : Prop :=
  ∀ (s : State) (n : NodeIdentity),
    exec (.nidIsBroadcast n) s =
      .next { s with responses := s.responses ++ [.ok (.bit (if n.raw = 0xFF then 1 else 0))] } ∧
    (∀ (t : CodeTable) (w : OperandWires), decode t (.opsel 0x2 { w with n := n.raw }) = .ok (.nidIsBroadcast n))

/-- R103: broadcast aliasing, through the responses the host takes. -/
def Obligations.BroadcastAliasing : Prop :=
  ∀ (s s' : State) (n : NodeIdentity),
    (exec .nidBroadcast s = .next { s with responses := s.responses ++ [.ok (.node n)] } ∨
      exec (.nidNew 0xFF) s = .next { s with responses := s.responses ++ [.ok (.node n)] }) →
    exec (.nidIsBroadcast n) s' = .next { s' with responses := s'.responses ++ [.ok (.bit 1)] }

/-! ### CommandRegistry (41) -/

/-- R113: CMD_CODE answers the table's entry for the command. -/
def Obligations.CmdCodeAnswersTableEntry : Prop :=
  ∀ s : State,
    exec (.cmdCode .stop) s = .next { s with responses := s.responses ++ [.ok (.code s.cfg.code.stop)] } ∧
    exec (.cmdCode .ping) s = .next { s with responses := s.responses ++ [.ok (.code s.cfg.code.ping)] } ∧
    exec (.cmdCode .pong) s = .next { s with responses := s.responses ++ [.ok (.code s.cfg.code.pong)] } ∧
    exec (.cmdCode .setDuty) s = .next { s with responses := s.responses ++ [.ok (.code s.cfg.code.setDuty)] } ∧
    exec (.cmdCode .notifySwitchState) s =
      .next { s with responses := s.responses ++ [.ok (.code s.cfg.code.notifySwitchState)] } ∧
    (∀ (t : CodeTable) (w : OperandWires) (c : Command), t.Admissible →
      decode t (.opsel 0x3 { w with c := codeOf t c }) = .ok (.cmdCode c))

/-- R114: CMD_LOOKUP answers the command whose code the operand is, and UnknownCommand when there is none. -/
def Obligations.CmdLookupFindsExactlyTheRegistered : Prop :=
  ∀ (s : State) (v : Code), s.cfg.code.Admissible →
    (∀ c : Command, codeOf s.cfg.code c = v →
      exec (.cmdLookup v) s = .next { s with responses := s.responses ++ [.ok (.command c)] }) ∧
    ((∀ c : Command, codeOf s.cfg.code c ≠ v) →
      exec (.cmdLookup v) s = .next { s with responses := s.responses ++ [.err .unknownCommand] }) ∧
    (∀ (t : CodeTable) (w : OperandWires), decode t (.opsel 0x4 { w with v := v }) = .ok (.cmdLookup v))

/-- R115: the two directions of the registry are inverse, as the host sees them. -/
def Obligations.CmdCodeAndLookupAreInverse : Prop :=
  ∀ (s s' : State) (c : Command) (v : Code), s.cfg.code.Admissible → s'.cfg = s.cfg →
    (exec (.cmdCode c) s = .next { s with responses := s.responses ++ [.ok (.code v)] } ↔
      exec (.cmdLookup v) s' = .next { s' with responses := s'.responses ++ [.ok (.command c)] })

/-- R116: CMD_RANGE by the inclusive bounds of R32, for every 13-bit operand and every code table. -/
def Obligations.CmdRangeByInclusiveBounds : Prop :=
  ∀ (s : State) (v : Code),
    exec (.cmdRange v) s = .next { s with responses := s.responses ++ [.ok (.range
      (if v.toNat ≤ 31 then .system else if v.toNat ≤ 2815 then .control
        else if v.toNat ≤ 5599 then .telemetry else .config))] } ∧
    (∀ (t : CodeTable) (w : OperandWires), decode t (.opsel 0x5 { w with v := v }) = .ok (.cmdRange v))

/-- R117, last sentence: the ranges of the five default codes. -/
def Obligations.RangesOfTheDefaultCodes : Prop :=
  ∀ s : State,
    (∀ c : Command, c ≠ .setDuty → exec (.cmdRange (codeOf defaultCode c)) s =
      .next { s with responses := s.responses ++ [.ok (.range .system)] }) ∧
    exec (.cmdRange (codeOf defaultCode .setDuty)) s =
      .next { s with responses := s.responses ++ [.ok (.range .control)] }

/-! ### IdentifierCodec (42) -/

/-- R130, R132: ID_PACK answers the sum of the three shifted fields, which never overflows 29 bits. -/
def Obligations.IdPackSumsShiftedFields : Prop :=
  ∀ (s : State) (c : Command) (snd rcv : NodeIdentity),
    (∃ v : Ident,
      exec (.idPack c snd rcv) s = .next { s with responses := s.responses ++ [.ok (.ident v)] } ∧
      v.toNat = (codeOf s.cfg.code c).toNat * 2 ^ 16 + snd.raw.toNat * 2 ^ 8 + rcv.raw.toNat ∧
      v = codeOf s.cfg.code c ++ snd.raw ++ rcv.raw) ∧
    (codeOf s.cfg.code c).toNat * 2 ^ 16 + snd.raw.toNat * 2 ^ 8 + rcv.raw.toNat < 2 ^ 29 ∧
    (∀ (t : CodeTable) (w : OperandWires), t.Admissible →
      decode t (.opsel 0x6 { w with c := codeOf t c, s := snd.raw, r := rcv.raw }) = .ok (.idPack c snd rcv))

/-- R131: ID_UNPACK judges the kind first, then the code, and takes sender and receiver unchecked. -/
def Obligations.IdUnpackStages : Prop :=
  ∀ (s : State) (v : Ident), s.cfg.code.Admissible →
    exec (.idUnpack .standard v) s = .next { s with responses := s.responses ++ [.err .wrongIdentifierKind] } ∧
    (∀ c : Command, codeOf s.cfg.code c = v.extractLsb 28 16 →
      exec (.idUnpack .extended v) s = .next { s with responses := s.responses ++
        [.ok (.unpacked c ⟨v.extractLsb 15 8⟩ ⟨v.extractLsb 7 0⟩)] }) ∧
    ((∀ c : Command, codeOf s.cfg.code c ≠ v.extractLsb 28 16) →
      exec (.idUnpack .extended v) s = .next { s with responses := s.responses ++ [.err .unknownCommand] }) ∧
    (∀ (t : CodeTable) (w : OperandWires) (k : IdentifierKind),
      decode t (.opsel 0x7 { w with k := kindWire k, idval := v }) = .ok (.idUnpack k v))

/-- R133 and R134: what ID_PACK answers, ID_UNPACK takes apart, and the other way round. -/
def Obligations.IdPackAndUnpackAreInverse : Prop :=
  ∀ (s s' : State) (c : Command) (snd rcv : NodeIdentity) (v : Ident), s.cfg.code.Admissible → s'.cfg = s.cfg →
    (exec (.idPack c snd rcv) s = .next { s with responses := s.responses ++ [.ok (.ident v)] } ↔
      exec (.idUnpack .extended v) s' =
        .next { s' with responses := s'.responses ++ [.ok (.unpacked c snd rcv)] })

/-! ### PayloadCodec (43) -/

/-- R140 with the encoders of R143 to R147: the bytes of every Data value. The wires of the Data operand in the last
clause are the model's choice (log 7; R44 gives none). -/
def Obligations.PlEncodeBytes : Prop :=
  ∀ s : State,
    exec (.plEncode .stop) s = .next { s with responses := s.responses ++ [.ok (.payload [])] } ∧
    exec (.plEncode .ping) s = .next { s with responses := s.responses ++ [.ok (.payload [])] } ∧
    exec (.plEncode .pong) s = .next { s with responses := s.responses ++ [.ok (.payload [])] } ∧
    (∀ (ch : Channel) (du : Duty) (di : Dir),
      exec (.plEncode (.setDuty ch du di)) s = .next { s with responses := s.responses ++
        [.ok (.payload [ch.val, BitVec.ofNat 8 (du.val.toNat / 256), BitVec.ofNat 8 (du.val.toNat % 256),
          if di = .cw then 0x00 else 0x01])] }) ∧
    (∀ (ch : Channel) (st : SwitchState),
      exec (.plEncode (.notifySwitchState ch st)) s = .next { s with responses := s.responses ++
        [.ok (.payload [ch.val, if st = .off then 0x00 else 0x01])] }) ∧
    (∀ (t : CodeTable) (w : OperandWires) (d : Data), t.Admissible →
      decode t (.opsel 0x8 { w with d := dataWires t d }) = .ok (.plEncode d))

/-- R142: any length but the command's own is answered with MalformedPayloadLength, whatever the bytes. -/
def Obligations.PlDecodeRejectsEveryOtherLength : Prop :=
  ∀ (s : State) (p : Payload),
    (p.length ≠ 0 →
      exec (.plDecode .stop p) s = .next { s with responses := s.responses ++ [.err .malformedPayloadLength] } ∧
      exec (.plDecode .ping p) s = .next { s with responses := s.responses ++ [.err .malformedPayloadLength] } ∧
      exec (.plDecode .pong p) s = .next { s with responses := s.responses ++ [.err .malformedPayloadLength] }) ∧
    (p.length ≠ 4 →
      exec (.plDecode .setDuty p) s =
        .next { s with responses := s.responses ++ [.err .malformedPayloadLength] }) ∧
    (p.length ≠ 2 →
      exec (.plDecode .notifySwitchState p) s =
        .next { s with responses := s.responses ++ [.err .malformedPayloadLength] })

/-- R141 and R79: the fields of a payload of the right length; the whole enumeration byte is compared. -/
def Obligations.PlDecodeFields : Prop :=
  ∀ s : State,
    exec (.plDecode .stop []) s = .next { s with responses := s.responses ++ [.ok (.data .stop)] } ∧
    exec (.plDecode .ping []) s = .next { s with responses := s.responses ++ [.ok (.data .ping)] } ∧
    exec (.plDecode .pong []) s = .next { s with responses := s.responses ++ [.ok (.data .pong)] } ∧
    (∀ (b0 b1 b2 b3 : Byte) (du : Half), du.toNat = b1.toNat * 256 + b2.toNat →
      exec (.plDecode .setDuty [b0, b1, b2, b3]) s = .next { s with responses := s.responses ++
        [if b3 = 0x00 then .ok (.data (.setDuty ⟨b0⟩ ⟨du⟩ .cw))
          else if b3 = 0x01 then .ok (.data (.setDuty ⟨b0⟩ ⟨du⟩ .ccw))
          else .err .invalidEnumValue] }) ∧
    (∀ b0 b1 : Byte,
      exec (.plDecode .notifySwitchState [b0, b1]) s = .next { s with responses := s.responses ++
        [if b1 = 0x00 then .ok (.data (.notifySwitchState ⟨b0⟩ .off))
          else if b1 = 0x01 then .ok (.data (.notifySwitchState ⟨b0⟩ .on))
          else .err .invalidEnumValue] }) ∧
    (∀ (t : CodeTable) (w : OperandWires) (c : Command) (p : Payload), t.Admissible → p.length ≤ 8 →
      decode t (.opsel 0x9 { w with c := codeOf t c, p := payloadWires p }) = .ok (.plDecode c p))

/-- R150 and R151: what PL_ENCODE answers for a Data value, PL_DECODE under its command takes back to it, and a
payload accepted under a command is the one PL_ENCODE answers for a Data value of that command. -/
def Obligations.PlEncodeAndDecodeAreInverse : Prop :=
  ∀ (s s' : State) (c : Command) (d : Data) (p : Payload),
    (c = commandOf d ∧
      exec (.plEncode d) s = .next { s with responses := s.responses ++ [.ok (.payload p)] }) ↔
    exec (.plDecode c p) s' = .next { s' with responses := s'.responses ++ [.ok (.data d)] }

/-- R154: on wires, only the length and the lanes below it decide what PL_DECODE answers. -/
def Obligations.PlDecodeIgnoresLanesAboveLength : Prop :=
  ∀ (s : State) (c : Command) (w w' : PayloadWires), w.len = w'.len →
    (∀ i < w.len.toNat, (lanes w)[i]? = (lanes w')[i]?) →
    exec (.plDecode c (readPayload w)) s = exec (.plDecode c (readPayload w')) s

/-! ### The five command rows (43 section 3) -/

/-- R143 to R145, receiving side (the meaning of a command row is log 6): an empty payload is the command, any
other is malformed. -/
def Obligations.EmptyPayloadCommands : Prop :=
  ∀ (s : State) (snd rcv : NodeIdentity) (p : Payload),
    exec (.stop snd rcv p) s = .next { s with responses := s.responses ++
      [if p = [] then .ok (.parsed snd rcv .stop) else .err .malformedPayloadLength] } ∧
    exec (.ping snd rcv p) s = .next { s with responses := s.responses ++
      [if p = [] then .ok (.parsed snd rcv .ping) else .err .malformedPayloadLength] } ∧
    exec (.pong snd rcv p) s = .next { s with responses := s.responses ++
      [if p = [] then .ok (.parsed snd rcv .pong) else .err .malformedPayloadLength] } ∧
    ∀ (t : CodeTable) (w : PayloadWires), t.Admissible →
      decode t (.xid29 1 (BitVec.setWidth 32 (t.stop ++ snd.raw ++ rcv.raw)) w) =
        .ok (.stop snd rcv (readPayload w)) ∧
      decode t (.xid29 1 (BitVec.setWidth 32 (t.ping ++ snd.raw ++ rcv.raw)) w) =
        .ok (.ping snd rcv (readPayload w)) ∧
      decode t (.xid29 1 (BitVec.setWidth 32 (t.pong ++ snd.raw ++ rcv.raw)) w) =
        .ok (.pong snd rcv (readPayload w))

/-- R146, receiving side (log 6): the duty is big-endian, the direction byte is compared whole, and the length
failure wins. -/
def Obligations.SetDutyReceived : Prop :=
  ∀ (s : State) (snd rcv : NodeIdentity) (p : Payload),
    (p.length ≠ 4 →
      exec (.setDuty snd rcv p) s =
        .next { s with responses := s.responses ++ [.err .malformedPayloadLength] }) ∧
    (∀ (b0 b1 b2 b3 : Byte) (du : Half), p = [b0, b1, b2, b3] → du.toNat = b1.toNat * 256 + b2.toNat →
      exec (.setDuty snd rcv p) s = .next { s with responses := s.responses ++
        [if b3 = 0x00 then .ok (.parsed snd rcv (.setDuty ⟨b0⟩ ⟨du⟩ .cw))
          else if b3 = 0x01 then .ok (.parsed snd rcv (.setDuty ⟨b0⟩ ⟨du⟩ .ccw))
          else .err .invalidEnumValue] }) ∧
    ∀ (t : CodeTable) (w : PayloadWires), t.Admissible →
      decode t (.xid29 1 (BitVec.setWidth 32 (t.setDuty ++ snd.raw ++ rcv.raw)) w) =
        .ok (.setDuty snd rcv (readPayload w))

/-- R147, receiving side (log 6). -/
def Obligations.NotifySwitchStateReceived : Prop :=
  ∀ (s : State) (snd rcv : NodeIdentity) (p : Payload),
    (p.length ≠ 2 →
      exec (.notifySwitchState snd rcv p) s =
        .next { s with responses := s.responses ++ [.err .malformedPayloadLength] }) ∧
    (∀ b0 b1 : Byte, p = [b0, b1] →
      exec (.notifySwitchState snd rcv p) s = .next { s with responses := s.responses ++
        [if b1 = 0x00 then .ok (.parsed snd rcv (.notifySwitchState ⟨b0⟩ .off))
          else if b1 = 0x01 then .ok (.parsed snd rcv (.notifySwitchState ⟨b0⟩ .on))
          else .err .invalidEnumValue] }) ∧
    ∀ (t : CodeTable) (w : PayloadWires), t.Admissible →
      decode t (.xid29 1 (BitVec.setWidth 32 (t.notifySwitchState ++ snd.raw ++ rcv.raw)) w) =
        .ok (.notifySwitchState snd rcv (readPayload w))

/-! ### FrameProtocol (44) -/

/-- R173: FR_BUILD answers the frame the constructor makes of the packed identifier and the encoded payload, and
faults where the constructor refuses, which it never does under CtorAcceptsUpTo(n) with n at least 4. The identifier
and the payload are named by what ID_PACK and PL_ENCODE answer. The wires of the Data operand in the last clause are
the model's choice (log 7; R44 gives none). -/
def Obligations.FrBuildHandsConstructorPackAndEncode : Prop :=
  ∀ (s : State) (snd rcv : NodeIdentity) (d : Data) (v : Ident) (p : Payload),
    exec (.idPack (commandOf d) snd rcv) s = .next { s with responses := s.responses ++ [.ok (.ident v)] } →
    exec (.plEncode d) s = .next { s with responses := s.responses ++ [.ok (.payload p)] } →
    (∀ f : Frame, ctorApply s.cfg.ctor v p = some f →
      exec (.frBuild snd rcv d) s = .next { s with responses := s.responses ++ [.ok (.frame f)] }) ∧
    (ctorApply s.cfg.ctor v p = none → exec (.frBuild snd rcv d) s = .fault .buildFatal) ∧
    (∀ n : Nat, 4 ≤ n → s.cfg.ctor.AcceptsUpTo n →
      ∃ f : Frame, exec (.frBuild snd rcv d) s = .next { s with responses := s.responses ++ [.ok (.frame f)] }) ∧
    (∀ (t : CodeTable) (w : OperandWires), t.Admissible →
      decode t (.opsel 0xA { w with s := snd.raw, r := rcv.raw, d := dataWires t d }) =
        .ok (.frBuild snd rcv d))

/-- R172, R173: under CtorAcceptsUpTo(n) with n at least 4, and a faithful constructor, FR_BUILD never faults and
answers the extended frame of the protocol. -/
def Obligations.FrBuildCompletesWhenConstructorAccepts : Prop :=
  ∀ (s : State) (n : Nat) (snd rcv : NodeIdentity) (d : Data), 4 ≤ n → s.cfg.ctor.AcceptsUpTo n →
    s.cfg.ctor.Faithful →
    exec (.frBuild snd rcv d) s = .next { s with responses := s.responses ++
      [.ok (.frame ⟨.extended, codeOf s.cfg.code (commandOf d) ++ snd.raw ++ rcv.raw, encodePayload d⟩)] }

/-- R195 with the constructor of 95 part 2.6 and P4, which refuses every payload longer than its cap: FR_BUILD
faults exactly when the command's payload is longer than the cap. -/
def Obligations.FrBuildFaultsExactlyAboveCap : Prop :=
  ∀ (s : State) (cap : Nat) (snd rcv : NodeIdentity) (d : Data), s.cfg.ctor = ⟨cap, []⟩ →
    (exec (.frBuild snd rcv d) s = .fault .buildFatal ↔ cap < payloadLength (commandOf d))

/-- R174, R200: FR_PARSE reports the first failure of kind, command, length, enumeration byte, and otherwise the
addresses and the Data value. -/
def Obligations.FrParseStages : Prop :=
  ∀ (s : State) (v : Ident) (p : Payload), s.cfg.code.Admissible →
    exec (.frParse ⟨.standard, v, p⟩) s =
      .next { s with responses := s.responses ++ [.err .wrongIdentifierKind] } ∧
    ((∀ c : Command, codeOf s.cfg.code c ≠ v.extractLsb 28 16) →
      exec (.frParse ⟨.extended, v, p⟩) s =
        .next { s with responses := s.responses ++ [.err .unknownCommand] }) ∧
    (∀ (c : Command) (k : FailureKind), codeOf s.cfg.code c = v.extractLsb 28 16 →
      exec (.plDecode c p) s = .next { s with responses := s.responses ++ [.err k] } →
      exec (.frParse ⟨.extended, v, p⟩) s = .next { s with responses := s.responses ++ [.err k] }) ∧
    (∀ (c : Command) (d : Data), codeOf s.cfg.code c = v.extractLsb 28 16 →
      exec (.plDecode c p) s = .next { s with responses := s.responses ++ [.ok (.data d)] } →
      exec (.frParse ⟨.extended, v, p⟩) s = .next { s with responses := s.responses ++
        [.ok (.parsed ⟨v.extractLsb 15 8⟩ ⟨v.extractLsb 7 0⟩ d)] }) ∧
    (∀ (t : CodeTable) (w : OperandWires) (k : IdentifierKind), p.length ≤ 8 →
      decode t (.opsel 0xB { w with f := frameWires ⟨k, v, p⟩ }) = .ok (.frParse ⟨k, v, p⟩))

/-- R177: FR_PARSE is total: every frame is answered, with a parsed triple or with one failure. -/
def Obligations.FrParseIsTotal : Prop :=
  ∀ (s : State) (f : Frame),
    (∃ (snd rcv : NodeIdentity) (d : Data),
      exec (.frParse f) s = .next { s with responses := s.responses ++ [.ok (.parsed snd rcv d)] }) ∨
    (∃ k : FailureKind, exec (.frParse f) s = .next { s with responses := s.responses ++ [.err k] })

/-- R175: the optional view of what FR_PARSE answers is empty exactly for a failure, whichever it is, and otherwise
holds the parsed triple. -/
def Obligations.OptionalViewOfFrParse : Prop :=
  ∀ (s : State) (f : Frame) (r : Response),
    exec (.frParse f) s = .next { s with responses := s.responses ++ [r] } →
    (optionalView r = none ↔ ∃ k, r = .err k) ∧
    (∀ v, optionalView r = some v → ∃ (snd rcv : NodeIdentity) (d : Data), v = .parsed snd rcv d ∧ r = .ok v)

/-- R180: parse of build is the identity, for every admissible code table and every faithful constructor that does
not refuse. -/
def Obligations.ParseOfBuildIsIdentity : Prop :=
  ∀ (s s' : State) (snd rcv : NodeIdentity) (d : Data) (f : Frame),
    s.cfg.code.Admissible → s.cfg.ctor.Faithful → s'.cfg.code = s.cfg.code →
    exec (.frBuild snd rcv d) s = .next { s with responses := s.responses ++ [.ok (.frame f)] } →
    exec (.frParse f) s' = .next { s' with responses := s'.responses ++ [.ok (.parsed snd rcv d)] }

/-- R181: a frame that parses is the one FR_BUILD hands the constructor. -/
def Obligations.BuildOfParseHandsTheSameFrame : Prop :=
  ∀ (s s' : State) (snd rcv : NodeIdentity) (d : Data) (f : Frame), s'.cfg.code = s.cfg.code →
    exec (.frParse f) s = .next { s with responses := s.responses ++ [.ok (.parsed snd rcv d)] } →
    f.kind = .extended ∧
    exec (.idPack (commandOf d) snd rcv) s' = .next { s' with responses := s'.responses ++ [.ok (.ident f.idval)] } ∧
    exec (.plEncode d) s' = .next { s' with responses := s'.responses ++ [.ok (.payload f.payload)] } ∧
    (∀ g : Frame, s'.cfg.ctor.Faithful →
      exec (.frBuild snd rcv d) s' = .next { s' with responses := s'.responses ++ [.ok (.frame g)] } → g = f)

/-- R104, R242: no acceptance filter: whether and to what Data value a frame parses does not depend on the
addresses in it. -/
def Obligations.AddressesNeverDecideAParse : Prop :=
  ∀ (s : State) (code : Code) (snd rcv snd' rcv' : Byte) (p : Payload),
    (∀ d : Data,
      exec (.frParse ⟨.extended, code ++ snd ++ rcv, p⟩) s =
        .next { s with responses := s.responses ++ [.ok (.parsed ⟨snd⟩ ⟨rcv⟩ d)] } →
      exec (.frParse ⟨.extended, code ++ snd' ++ rcv', p⟩) s =
        .next { s with responses := s.responses ++ [.ok (.parsed ⟨snd'⟩ ⟨rcv'⟩ d)] }) ∧
    (∀ k : FailureKind,
      exec (.frParse ⟨.extended, code ++ snd ++ rcv, p⟩) s =
        .next { s with responses := s.responses ++ [.err k] } →
      exec (.frParse ⟨.extended, code ++ snd' ++ rcv', p⟩) s =
        .next { s with responses := s.responses ++ [.err k] })

/-- R245, last sentence: with the default table every extended identifier below 0x00030000 with an empty payload is
a valid Stop, Ping or Pong. -/
def Obligations.ForeignTrafficThatFits : Prop :=
  ∀ (s : State) (v : Ident), s.cfg.code = defaultCode → v.toNat < 0x00030000 →
    ∃ d : Data, (d = .stop ∨ d = .ping ∨ d = .pong) ∧
      exec (.frParse ⟨.extended, v, []⟩) s = .next { s with responses := s.responses ++
        [.ok (.parsed ⟨v.extractLsb 15 8⟩ ⟨v.extractLsb 7 0⟩ d)] }

/-! ### Every instruction -/

/-- Every instruction answers within its row, and only FR_BUILD can fault (R195). The rows of the twelve operations are
R42's. What a command row may answer is the model's reading (log 6) with the decoders of R143 to R147. -/
def Obligations.EveryInstructionAnswersWithinItsRow : Prop :=
  ∀ (i : Instr) (s : State),
    (∃ r : Response, exec i s = .next { s with responses := s.responses ++ [r] } ∧ i.admits r = true) ∨
    (∃ (snd rcv : NodeIdentity) (d : Data), i = .frBuild snd rcv d ∧ exec i s = .fault .buildFatal ∧
      ctorApply s.cfg.ctor (codeOf s.cfg.code (commandOf d) ++ snd.raw ++ rcv.raw) (encodePayload d) = none)

/-- R62, R184, R204: an answer depends on the operands and the parameters alone, not on what was presented or
answered before. -/
def Obligations.AnswersDependOnOperandsAndParametersAlone : Prop :=
  ∀ (i : Instr) (s s' : State), s'.cfg = s.cfg →
    (∀ r : Response, exec i s = .next { s with responses := s.responses ++ [r] } →
      exec i s' = .next { s' with responses := s'.responses ++ [r] }) ∧
    (exec i s = .fault .buildFatal → exec i s' = .fault .buildFatal)

/-- The address operations (R100 to R102), CMD_RANGE (R116) and the payload codec (R140, R141) consult no parameter.
That a command row, its command being resolved, consults none either is the model's reading (log 6). -/
def Obligations.CodeTableIsNotConsulted : Prop :=
  ∀ (s s' : State) (r : Response) (i : Instr),
    ((∃ raw, i = .nidNew raw) ∨ i = .nidBroadcast ∨ (∃ n, i = .nidIsBroadcast n) ∨ (∃ v, i = .cmdRange v) ∨
      (∃ d, i = .plEncode d) ∨ (∃ c p, i = .plDecode c p) ∨ (∃ c snd rcv p, i = commandInstr c snd rcv p)) →
    exec i s = .next { s with responses := s.responses ++ [r] } →
    exec i s' = .next { s' with responses := s'.responses ++ [r] }

/-! ### Decoding and encoding (30) -/

/-- The words of a few instructions, written out from R70 and R75 bit by bit. -/
def Obligations.WordsDecodeToTheirInstructions : Prop :=
  decode defaultCode (.xid29 1 0b00000000000010110000000100000000 { len := 2, b1 := 1 }) =
    .ok (.notifySwitchState ⟨1⟩ ⟨0⟩ [0, 1]) ∧
  decode defaultCode (.xid29 1 0b00000000001000000001000000100000 { len := 4, b0 := 3, b1 := 0xAB, b2 := 0xCD, b3 := 1 }) =
    .ok (.setDuty ⟨0x10⟩ ⟨0x20⟩ [3, 0xAB, 0xCD, 1]) ∧
  decode defaultCode (.opsel 0b0101 { v := 0x0B00 }) = .ok (.cmdRange 0x0B00) ∧
  decode defaultCode (.opsel 0b0111 { k := 1, idval := 0x000B0100 }) = .ok (.idUnpack .extended 0x000B0100) ∧
  decode defaultCode (.opsel 0b0010 { n := 0xFF }) = .ok (.nidIsBroadcast ⟨0xFF⟩)

/-- Decoding the encoding of a well-formed instruction gives it back, for every admissible code table and every
operand (R70 to R75, R44). -/
def Obligations.DecodeOfEncode : Prop :=
  ∀ (t : CodeTable) (i : Instr), t.Admissible → i.wellFormed = true → decode t (encode t i) = .ok i

/-- R89: with the default table a 29-bit word of an extended frame is selected by its bits under the mask
0x1FFF0000, and the two addresses are bits 15:8 and 7:0. -/
def Obligations.MaskAndMatchSelectTheCommand : Prop :=
  ∀ (w : BitVec 32) (pay : PayloadWires), w.toNat < 2 ^ 29 →
    (w &&& 0x1FFF0000#32 = 0x00000000#32 ↔ decode defaultCode (.xid29 1 w pay) =
      .ok (.stop ⟨w.extractLsb 15 8⟩ ⟨w.extractLsb 7 0⟩ (readPayload pay))) ∧
    (w &&& 0x1FFF0000#32 = 0x00010000#32 ↔ decode defaultCode (.xid29 1 w pay) =
      .ok (.ping ⟨w.extractLsb 15 8⟩ ⟨w.extractLsb 7 0⟩ (readPayload pay))) ∧
    (w &&& 0x1FFF0000#32 = 0x00020000#32 ↔ decode defaultCode (.xid29 1 w pay) =
      .ok (.pong ⟨w.extractLsb 15 8⟩ ⟨w.extractLsb 7 0⟩ (readPayload pay))) ∧
    (w &&& 0x1FFF0000#32 = 0x000B0000#32 ↔ decode defaultCode (.xid29 1 w pay) =
      .ok (.notifySwitchState ⟨w.extractLsb 15 8⟩ ⟨w.extractLsb 7 0⟩ (readPayload pay))) ∧
    (w &&& 0x1FFF0000#32 = 0x00200000#32 ↔ decode defaultCode (.xid29 1 w pay) =
      .ok (.setDuty ⟨w.extractLsb 15 8⟩ ⟨w.extractLsb 7 0⟩ (readPayload pay)))

/-- R85: a request with operation select 0xC to 0xF is refused by name. -/
def Obligations.ReservedOperationSelectIsRefused : Prop :=
  ∀ (s : State) (op : Byte) (w : OperandWires) (rest : List Request), 0xC ≤ op.toNat → op.toNat ≤ 0xF →
    s.requests = .opsel op w :: rest → step s = .refused .reservedOpSelect

/-- 93 U14, 91 N6, and the model's own choice for the select container (log 8): a container with bits above the
field set is refused. -/
def Obligations.WiderContainersAreRefused : Prop :=
  ∀ (s : State) (rest : List Request),
    (∀ (ext : BitVec 1) (word : BitVec 32) (pay : PayloadWires), 2 ^ 29 ≤ word.toNat →
      s.requests = .xid29 ext word pay :: rest → step s = .refused .identifierTooWide) ∧
    (∀ (op : Byte) (w : OperandWires), 16 ≤ op.toNat →
      s.requests = .opsel op w :: rest → step s = .refused .opSelectTooWide)

/-- The model's choice (log 11, and log 7 for the tag of a Data value): a step refuses a request for an unregistered
Command operand exactly when the operation has such an operand and its wire drives no code of the table (R44 lets the
host drive the five registered codes only). -/
def Obligations.UnregisteredCommandOperandIsRefused : Prop :=
  ∀ (s : State) (op : Byte) (w : OperandWires) (rest : List Request), s.requests = .opsel op w :: rest →
    (step s = .refused .unregisteredCommandOperand ↔
      ((op = 0x3 ∨ op = 0x6 ∨ op = 0x9) ∧ ∀ c : Command, codeOf s.cfg.code c ≠ w.c) ∨
      ((op = 0x8 ∨ op = 0xA) ∧ ∀ c : Command, codeOf s.cfg.code c ≠ w.d.cmd))

/-! ### The step -/

/-- A step takes the oldest request and runs the instruction it decodes to (R13, R40). -/
def Obligations.StepRunsTheDecodedInstruction : Prop :=
  ∀ (s : State) (r : Request) (rest : List Request) (i : Instr), s.requests = r :: rest →
    decode s.cfg.code r = .ok i → step s = exec i { s with requests := rest }

/-- How the host's table words run (the model's choice, log 10): the word is the next request, and the step after
reset runs the instruction the decoder reads from it. -/
def Obligations.TableWordRunsFirstAfterReset : Prop :=
  ∀ (nbits w : Nat) (i : Instr), decodeTableWord nbits w = some i →
    step (State.reset.withFetchWord nbits w) = exec i State.reset

/-- R250, R195, R172: a step always completes when the constructor accepts payloads of up to 4 bytes and the oldest
request stands for an instruction, or for a frame illegal for this protocol. That a step with no request completes is
the model's choice (log 5). -/
def Obligations.StepCompletesUnderAcceptance : Prop :=
  ∀ s : State, s.cfg.ctor.AcceptsUpTo 4 →
    (∀ (r : Request) (rest : List Request), s.requests = r :: rest →
      (∃ i, decode s.cfg.code r = .ok i) ∨ (∃ k, decode s.cfg.code r = .error (.failure k))) →
    s.Completes

/-- The model's choice (log 5): with no request presented the block idles. -/
def Obligations.StepIdlesWithoutRequest : Prop :=
  ∀ s : State, s.requests = [] → step s = .next s

/-- R40, R47: a step that answers takes one request, gives one response, and leaves everything else; with no request
presented nothing changes (log 5). -/
def Obligations.StepTakesOneRequestAndGivesOneResponse : Prop :=
  ∀ s t : State, step s = .next t →
    (s.requests = [] ∧ t = s) ∨
    (∃ (q : Request) (rest : List Request) (r : Response), s.requests = q :: rest ∧
      t = { s with requests := rest, responses := s.responses ++ [r] })

/-- A received frame on wires is answered exactly as FR_PARSE answers that frame, whether it names a command or not
(R81, R82, R174; the meaning of a command row is log 6). -/
def Obligations.ReceivedFrameIsAnsweredAsFrParse : Prop :=
  ∀ (s : State) (ext : BitVec 1) (word : BitVec 32) (pay : PayloadWires) (rest : List Request),
    s.requests = .xid29 ext word pay :: rest → word.toNat < 2 ^ 29 →
    step s = exec (.frParse (readFrame ⟨ext, word.setWidth 29, pay⟩)) { s with requests := rest }

/-- The frame FR_BUILD answers, received by a node with the same code table, is answered with what was built (R180
through the wires of R44). That a step answers a received frame's wires so is the model's reading (log 6). -/
def Obligations.BuiltFrameIsReceivedOverTheWires : Prop :=
  ∀ (s s' : State) (snd rcv : NodeIdentity) (d : Data) (f : Frame) (rest : List Request),
    s.cfg.code.Admissible → s.cfg.ctor.Faithful → s'.cfg.code = s.cfg.code →
    exec (.frBuild snd rcv d) s = .next { s with responses := s.responses ++ [.ok (.frame f)] } →
    s'.requests = .xid29 (frameWires f).ext ((frameWires f).idval.setWidth 32) (frameWires f).payload :: rest →
    step s' = .next { s' with requests := rest, responses := s'.responses ++ [.ok (.parsed snd rcv d)] }

/-- R62: a run over the presented requests answers each as it would be answered alone, in order. -/
def Obligations.RunAnswersEachRequestAsAlone : Prop :=
  ∀ s t : State,
    Host.Core.run Sys2Proof.core s.requests.length s = .next t ↔
      ∃ rs : List Response, t = { s with requests := [], responses := s.responses ++ rs } ∧
        List.Forall₂ (fun q r => step { s with requests := [q], responses := [] } =
          .next { s with requests := [], responses := [r] }) s.requests rs

/-- R62: presenting the same requests in any other order gives each of them the response it had: the pairs of a
request and its response are the same, in another order. -/
def Obligations.OrderOfRequestsDoesNotMatter : Prop :=
  ∀ (s t : State) (qs : List Request), s.requests.Perm qs →
    Host.Core.run Sys2Proof.core s.requests.length s = .next t →
    ∃ rs rs' : List Response,
      t = { s with requests := [], responses := s.responses ++ rs } ∧
      Host.Core.run Sys2Proof.core qs.length { s with requests := qs } =
        .next { s with requests := [], responses := s.responses ++ rs' } ∧
      rs.length = s.requests.length ∧ rs'.length = qs.length ∧ (s.requests.zip rs).Perm (qs.zip rs')

/-- Every step keeps the invariant: the parameters meet R111 and R171, and every response is one the block can
give: registered codes, payloads of 0, 2 or 4 bytes (R38), frames of the protocol and never a standard one (R74,
R82). -/
def Obligations.StepKeepsInvariant : Prop :=
  ∀ s t : State, s.Inv → step s = .next t → t.Inv

/-- The state after reset has the invariant. -/
def Obligations.ResetHasInvariant : Prop :=
  State.reset.Inv

/-- R112, R36, and the model's choices of log 1, log 2 and log 4: what the machine holds after reset. -/
def Obligations.ResetHoldsTheDefaultParameters : Prop :=
  State.reset.cfg.code = ⟨0x0000, 0x0001, 0x0002, 0x0020, 0x000B⟩ ∧
  State.reset.cfg.ctor = ⟨8, []⟩ ∧ State.reset.requests = [] ∧ State.reset.responses = []

/-- R232: the first operation after reset is answered as any other. -/
def Obligations.FirstOperationAfterResetIsOrdinary : Prop :=
  ∀ (i : Instr) (s : State) (r : Response), s.cfg = State.reset.cfg →
    (exec i State.reset = .next { State.reset with responses := [r] } ↔
      exec i s = .next { s with responses := s.responses ++ [r] })

/-! ### Status, wires, payload access, text -/

/-- R196: the 3-bit status codes; a code stands for one status, and 5 and 6 for none; the fault BuildFatal is reported
with code 7 and without a result (R43). -/
def Obligations.StatusCodesOfTheTable : Prop :=
  statusCode .ok = 0 ∧ statusCode (.err .wrongIdentifierKind) = 1 ∧ statusCode (.err .unknownCommand) = 2 ∧
  statusCode (.err .malformedPayloadLength) = 3 ∧ statusCode (.err .invalidEnumValue) = 4 ∧
  statusCode .buildFatal = 7 ∧ readStatus 5 = none ∧ readStatus 6 = none ∧
  (∀ (b : BitVec 3) (st : Status), readStatus b = some st ↔ statusCode st = b) ∧
  ∀ w : ResponseWires, carriesFault w .buildFatal = true ↔ w.status = 7 ∧ w.valid = 0

/-- R43, R44: wires that carry a response tell whether it has a result (valid), which failure it is (status), and,
among the responses of one instruction, which result it is; `drive` is one such bundle for every legal response
(log 19). -/
def Obligations.ResponseWiresCarryTheResponse : Prop :=
  ∀ (t : CodeTable) (r : Response), t.Admissible → r.Legal t →
    carries t (drive t r) r = true ∧
    ∀ w : ResponseWires, carries t w r = true →
      (w.valid = 1 ↔ ∃ v, r = .ok v) ∧ (∀ k : FailureKind, (w.status = statusCode (.err k) ↔ r = .err k)) ∧
      ∀ (i : Instr) (r' : Response), i.admits r = true → i.admits r' = true → carries t w r' = true → r' = r

/-- R55, R56, R8: a two-byte read is the two one-byte reads, the first more significant, and is defined exactly when
both bytes exist. -/
def Obligations.TwoByteReadIsBigEndian : Prop :=
  ∀ (p : Payload) (i : Nat),
    (∀ hi lo : Byte, memRead1 p i = some hi → memRead1 p (i + 1) = some lo →
      ∃ v : Half, memRead2 p i = some v ∧ v.toNat = hi.toNat * 256 + lo.toNat) ∧
    ((memRead2 p i).isSome ↔ i + 2 ≤ p.length) ∧
    ∀ v w : Half, i + 2 ≤ p.length → memRead2 (memWrite2 p i v) i = some v ∧
      (memRead2 p i = some w → memWrite2 p i w = p)

/-- R88, its two NodeIdentity forms: `NodeIdentity::broadcast()` and `NodeIdentity(n)` have the outcome of
`NodeIdentity::new` of their byte wherever R87 lets them stand: alone, as sender or receiver of pack, and before
is_broadcast. -/
def Obligations.PseudoOperationsExpand : Prop :=
  ∀ (s : State) (n : Byte) (c : Command) (x y : NodeTerm),
    exec (instrOfTerm (.value .broadcast)) s = exec (instrOfTerm (.value (.new 0xFF))) s ∧
    exec (instrOfTerm (.value (.node n))) s = exec (instrOfTerm (.value (.new n))) s ∧
    exec (instrOfTerm (.pack c .broadcast x)) s = exec (instrOfTerm (.pack c (.new 0xFF) x)) s ∧
    exec (instrOfTerm (.pack c x .broadcast)) s = exec (instrOfTerm (.pack c x (.new 0xFF))) s ∧
    exec (instrOfTerm (.pack c (.node n) y)) s = exec (instrOfTerm (.pack c (.new n) y)) s ∧
    exec (instrOfTerm (.pack c y (.node n))) s = exec (instrOfTerm (.pack c y (.new n))) s ∧
    exec (instrOfTerm (.isBroadcast .broadcast)) s = exec (instrOfTerm (.isBroadcast (.new 0xFF))) s ∧
    exec (instrOfTerm (.isBroadcast (.node n))) s = exec (instrOfTerm (.isBroadcast (.new n))) s
end

