-- ==== Sys2Proof/Laws/Operands.lean ====
section
/-! SUPPORT. What the pure operations can do: the registry, the identifier's fields, the payload's bytes, the frame
constructor. -/

namespace Sys2Proof.Machine

/-! ### The registry -/

theorem mem_allCommands (c : Command) : c ∈ allCommands := by
  cases c <;> decide

/-- A command that a lookup finds has the code looked up, whatever the table. -/
theorem lookupCommand_ok {t : CodeTable} {v : Code} {c : Command} (h : lookupCommand t v = .ok c) :
    codeOf t c = v := by
  unfold lookupCommand at h
  split at h
  · rename_i c' hc
    have hp := List.find?_some hc
    cases h
    simpa using hp
  · cases h

/-- A lookup fails exactly when no command has the code, and then with `UnknownCommand`. -/
theorem lookupCommand_error_iff {t : CodeTable} {v : Code} {k : FailureKind} :
    lookupCommand t v = .error k ↔ k = .unknownCommand ∧ ∀ c, codeOf t c ≠ v := by
  unfold lookupCommand
  split
  · rename_i c hc
    have hp := List.find?_some hc
    constructor
    · intro h; cases h
    · rintro ⟨-, h⟩; exact absurd (by simpa using hp) (h c)
  · rename_i hn
    rw [List.find?_eq_none] at hn
    constructor
    · intro h
      cases h
      exact ⟨rfl, fun c hc => by simpa [hc] using hn c (mem_allCommands c)⟩
    · rintro ⟨rfl, -⟩; rfl

/-- For an injective table the lookup inverts the table (R115). -/
theorem lookupCommand_codeOf {t : CodeTable} (ht : t.Admissible) (c : Command) :
    lookupCommand t (codeOf t c) = .ok c := by
  cases h : lookupCommand t (codeOf t c) with
  | ok c' => rw [ht c' c (lookupCommand_ok h)]
  | error k => exact absurd rfl ((lookupCommand_error_iff.mp h).2 c)

/-- The decidable check of R111 says what it should. -/
theorem distinct_iff_admissible (t : CodeTable) : t.distinct = true ↔ t.Admissible := by
  unfold CodeTable.distinct CodeTable.Admissible
  rw [decide_eq_true_iff, List.nodup_map_iff_inj_on (by decide)]
  exact ⟨fun h c c' hc => h c (mem_allCommands c) c' (mem_allCommands c') hc,
    fun h c _ c' _ hc => h c c' hc⟩

/-! ### The identifier -/

theorem codeField_packFields (code : Code) (snd rcv : Byte) : codeField (packFields code snd rcv) = code := by
  apply BitVec.eq_of_getLsbD_eq
  intro i hi
  have h1 : ¬ (16 + i < 16) := by omega
  have h2 : snd.getLsbD (16 + i - 8) = false := BitVec.getLsbD_of_ge _ _ (by omega)
  have h3 : rcv.getLsbD (16 + i) = false := BitVec.getLsbD_of_ge _ _ (by omega)
  have h4 : 16 + i < 29 := by omega
  simp [codeField, packFields, cmdShift, senderShift, receiverShift, h2, h3, h4, hi]

theorem senderField_packFields (code : Code) (snd rcv : Byte) : senderField (packFields code snd rcv) = snd := by
  apply BitVec.eq_of_getLsbD_eq
  intro i hi
  have h4 : 8 + i < 29 := by omega
  have h5 : 8 + i < 16 := by omega
  simp [senderField, packFields, cmdShift, senderShift, receiverShift, h4, h5, hi]

theorem receiverField_packFields (code : Code) (snd rcv : Byte) :
    receiverField (packFields code snd rcv) = rcv := by
  apply BitVec.eq_of_getLsbD_eq
  intro i hi
  have h4 : i < 29 := by omega
  have h5 : i < 16 := by omega
  simp [receiverField, packFields, cmdShift, senderShift, receiverShift, h4, h5, hi]

/-- The three fields tile the 29 bits (R70): no bit is dropped. -/
theorem packFields_fields (v : Ident) : packFields (codeField v) (senderField v) (receiverField v) = v := by
  apply BitVec.eq_of_getLsbD_eq
  intro i hi
  simp only [packFields, codeField, senderField, receiverField, cmdShift, senderShift, receiverShift,
    BitVec.getLsbD_or, BitVec.getLsbD_shiftLeft, BitVec.getLsbD_setWidth, BitVec.getLsbD_extractLsb', hi,
    BitVec.truncate_eq_setWidth, Nat.sub_zero, Nat.zero_add]
  by_cases h1 : i < 8
  · simp [h1, show i < 16 by omega, show i < 29 by omega]
  · by_cases h2 : i < 16
    · simp [h1, h2, show i - 8 < 8 by omega, show i - 8 < 29 by omega, show 8 + (i - 8) = i by omega]
    · simp [h1, h2, show i - 16 < 13 by omega, show ¬ i - 8 < 8 by omega, show i - 16 < 29 by omega,
        show 16 + (i - 16) = i by omega]

/-! ### The payload -/

theorem encodePayload_setDuty (ch : Channel) (du : Duty) (di : Dir) :
    encodePayload (.setDuty ch du di) =
      [ch.val, du.val.extractLsb' 8 8, du.val.extractLsb' 0 8, dirEncode di] := rfl

theorem encodePayload_notifySwitchState (ch : Channel) (st : SwitchState) :
    encodePayload (.notifySwitchState ch st) = [ch.val, stateEncode st] := rfl

/-- A payload the block builds has the length of its command (R140). -/
theorem encodePayload_length (d : Data) : (encodePayload d).length = payloadLength (commandOf d) := by
  cases d <;> rfl

theorem dirDecode_dirEncode (d : Dir) : dirDecode (dirEncode d) = .ok d := by cases d <;> rfl

theorem stateDecode_stateEncode (st : SwitchState) : stateDecode (stateEncode st) = .ok st := by cases st <;> rfl

/-- A direction byte that decodes is the byte its value encodes to. -/
theorem dirDecode_ok {b : Byte} {d : Dir} (h : dirDecode b = .ok d) : b = dirEncode d := by
  unfold dirDecode at h
  split at h
  · next hb => cases h; exact hb
  · split at h
    · next hb => cases h; exact hb
    · cases h

/-- A switch-state byte that decodes is the byte its value encodes to. -/
theorem stateDecode_ok {b : Byte} {st : SwitchState} (h : stateDecode b = .ok st) : b = stateEncode st := by
  unfold stateDecode at h
  split at h
  · next hb => cases h; exact hb
  · split at h
    · next hb => cases h; exact hb
    · cases h

/-- Joining the two halves of a duty gives the duty back (R55). -/
theorem join_halves (w : Half) :
    ((w.extractLsb' 8 8).zeroExtend 16 <<< 8) ||| (w.extractLsb' 0 8).zeroExtend 16 = w := by
  apply BitVec.eq_of_getLsbD_eq
  intro i hi
  by_cases h1 : i < 8
  · simp [h1, hi]
  · simp [h1, hi, show i - 8 < 8 by omega, show 8 + (i - 8) = i by omega]

/-- Splitting a joined pair gives the pair back: the more significant byte. -/
theorem split_join_hi (hi lo : Byte) :
    ((hi.zeroExtend 16 <<< 8) ||| lo.zeroExtend 16).extractLsb' 8 8 = hi := by
  apply BitVec.eq_of_getLsbD_eq
  intro i h
  simp [h, show 8 + i < 16 by omega]

/-- Splitting a joined pair gives the pair back: the less significant byte. -/
theorem split_join_lo (hi lo : Byte) :
    ((hi.zeroExtend 16 <<< 8) ||| lo.zeroExtend 16).extractLsb' 0 8 = lo := by
  apply BitVec.eq_of_getLsbD_eq
  intro i h
  simp [h, show i < 16 by omega]

/-- What the decoder of SetDuty does with four bytes (R146). -/
theorem decSetDuty_four (b0 b1 b2 b3 : Byte) :
    decSetDuty [b0, b1, b2, b3] =
      match dirDecode b3 with
      | .ok di => .ok (.setDuty ⟨b0⟩ ⟨(b1.zeroExtend 16 <<< 8) ||| b2.zeroExtend 16⟩ di)
      | .error e => .error e := rfl

/-- What the decoder of NotifySwitchState does with two bytes (R147). -/
theorem decNotifySwitchState_two (b0 b1 : Byte) :
    decNotifySwitchState [b0, b1] =
      match stateDecode b1 with
      | .ok st => .ok (.notifySwitchState ⟨b0⟩ st)
      | .error e => .error e := rfl

/-- A decode that succeeds has passed the length check (R142). -/
theorem checkedDecode_ok {c : Command} {dec : Payload → Except FailureKind Data} {p : Payload} {d : Data}
    (h : checkedDecode c dec p = .ok d) : p.length = payloadLength c ∧ dec p = .ok d := by
  unfold checkedDecode at h
  split at h
  · next hl => exact ⟨hl, h⟩
  · cases h

/-- A payload of the right length goes to the command's decoder (R141). -/
theorem decodePayload_of_length {c : Command} {p : Payload} (h : p.length = payloadLength c) :
    decodePayload c p = decoderOf c p := if_pos h

/-- A payload of any other length is malformed (R142). -/
theorem decodePayload_of_length_ne {c : Command} {p : Payload} (h : p.length ≠ payloadLength c) :
    decodePayload c p = .error .malformedPayloadLength := if_neg h

/-! ### The frame constructor -/

/-- A constructor that answers nothing by exception accepts up to its cap and returns the record. -/
theorem ctorApply_nil (cap : Nat) (v : Ident) (p : Payload) :
    ctorApply ⟨cap, []⟩ v p = if p.length ≤ cap then some ⟨.extended, v, p⟩ else none := rfl

end Sys2Proof.Machine
end

