-- ==== Sys2Proof/Laws/PerInstr.lean ====
section
/-! SUPPORT. The family EncodeSelects: the request an instruction is encoded to carries the select bits that its row
of opcode_table.json gives. -/

namespace Sys2Proof.Laws.EncodeSelects

open Sys2Proof.Machine

/-- What selects a row: a command code of the identifier (R89), or an operation select (R75). -/
def rowSelect : Instr → Sum Command Nat
  | .stop _ _ _ => .inl .stop
  | .ping _ _ _ => .inl .ping
  | .pong _ _ _ => .inl .pong
  | .setDuty _ _ _ => .inl .setDuty
  | .notifySwitchState _ _ _ => .inl .notifySwitchState
  | .nidNew _ => .inr 0x0
  | .nidBroadcast => .inr 0x1
  | .nidIsBroadcast _ => .inr 0x2
  | .cmdCode _ => .inr 0x3
  | .cmdLookup _ => .inr 0x4
  | .cmdRange _ => .inr 0x5
  | .idPack _ _ _ => .inr 0x6
  | .idUnpack _ _ => .inr 0x7
  | .plEncode _ => .inr 0x8
  | .plDecode _ _ => .inr 0x9
  | .frBuild _ _ _ => .inr 0xA
  | .frParse _ => .inr 0xB

/-- The request carries the select bits of its row. -/
def Statement (i : Instr) : Prop :=
  ∀ t : CodeTable,
    match rowSelect i with
    | .inl c => ∃ word w, encode t i = .xid29 1 word w ∧ codeField (word.setWidth 29) = codeOf t c
    | .inr n => ∃ w, encode t i = .opsel (BitVec.ofNat 8 n) w

/-- The code field survives the 32-bit container. -/
theorem codeField_container (t : CodeTable) (c : Command) (snd rcv : NodeIdentity) :
    codeField (((packIdent t c snd rcv).setWidth 32).setWidth 29) = codeOf t c := by
  rw [BitVec.setWidth_setWidth_of_le _ (by decide), BitVec.setWidth_eq, packIdent, codeField_packFields]

theorem stop (snd rcv : NodeIdentity) (p : Payload) : Statement (.stop snd rcv p) :=
  fun t => ⟨_, _, rfl, codeField_container t .stop snd rcv⟩
theorem ping (snd rcv : NodeIdentity) (p : Payload) : Statement (.ping snd rcv p) :=
  fun t => ⟨_, _, rfl, codeField_container t .ping snd rcv⟩
theorem pong (snd rcv : NodeIdentity) (p : Payload) : Statement (.pong snd rcv p) :=
  fun t => ⟨_, _, rfl, codeField_container t .pong snd rcv⟩
theorem setDuty (snd rcv : NodeIdentity) (p : Payload) : Statement (.setDuty snd rcv p) :=
  fun t => ⟨_, _, rfl, codeField_container t .setDuty snd rcv⟩
theorem notifySwitchState (snd rcv : NodeIdentity) (p : Payload) : Statement (.notifySwitchState snd rcv p) :=
  fun t => ⟨_, _, rfl, codeField_container t .notifySwitchState snd rcv⟩
theorem nidNew (raw : Byte) : Statement (.nidNew raw) := fun _ => ⟨_, rfl⟩
theorem nidBroadcast : Statement .nidBroadcast := fun _ => ⟨_, rfl⟩
theorem nidIsBroadcast (n : NodeIdentity) : Statement (.nidIsBroadcast n) := fun _ => ⟨_, rfl⟩
theorem cmdCode (c : Command) : Statement (.cmdCode c) := fun _ => ⟨_, rfl⟩
theorem cmdLookup (v : Code) : Statement (.cmdLookup v) := fun _ => ⟨_, rfl⟩
theorem cmdRange (v : Code) : Statement (.cmdRange v) := fun _ => ⟨_, rfl⟩
theorem idPack (c : Command) (snd rcv : NodeIdentity) : Statement (.idPack c snd rcv) := fun _ => ⟨_, rfl⟩
theorem idUnpack (k : IdentifierKind) (v : Ident) : Statement (.idUnpack k v) := fun _ => ⟨_, rfl⟩
theorem plEncode (d : Data) : Statement (.plEncode d) := fun _ => ⟨_, rfl⟩
theorem plDecode (c : Command) (p : Payload) : Statement (.plDecode c p) := fun _ => ⟨_, rfl⟩
theorem frBuild (snd rcv : NodeIdentity) (d : Data) : Statement (.frBuild snd rcv d) := fun _ => ⟨_, rfl⟩
theorem frParse (f : Frame) : Statement (.frParse f) := fun _ => ⟨_, rfl⟩

end Sys2Proof.Laws.EncodeSelects
end

