-- ==== Sys2Proof/Laws/State.lean ====
section
/-! SUPPORT. One lemma per field per update of State, and what the shared operations over State can do. -/

namespace Sys2Proof.Machine

@[simp] theorem State.respond_cfg (r : Response) (s : State) : (s.respond r).cfg = s.cfg := rfl
@[simp] theorem State.respond_requests (r : Response) (s : State) : (s.respond r).requests = s.requests := rfl
@[simp] theorem State.respond_responses (r : Response) (s : State) :
    (s.respond r).responses = s.responses ++ [r] := rfl

@[simp] theorem State.raise_cfg (k : FailureKind) (s : State) : (s.raise k).cfg = s.cfg := rfl
@[simp] theorem State.raise_requests (k : FailureKind) (s : State) : (s.raise k).requests = s.requests := rfl
@[simp] theorem State.raise_responses (k : FailureKind) (s : State) :
    (s.raise k).responses = s.responses ++ [.err k] := rfl

@[simp] theorem State.takeRequest_cfg (rest : List Request) (s : State) : (s.takeRequest rest).cfg = s.cfg := rfl
@[simp] theorem State.takeRequest_requests (rest : List Request) (s : State) :
    (s.takeRequest rest).requests = rest := rfl
@[simp] theorem State.takeRequest_responses (rest : List Request) (s : State) :
    (s.takeRequest rest).responses = s.responses := rfl

@[simp] theorem presentFirst_cfg (r : Request) (s : State) : (presentFirst r s).cfg = s.cfg := rfl
@[simp] theorem presentFirst_requests (r : Request) (s : State) :
    (presentFirst r s).requests = r :: s.requests := rfl
@[simp] theorem presentFirst_responses (r : Request) (s : State) :
    (presentFirst r s).responses = s.responses := rfl

@[simp] theorem State.reset_cfg : State.reset.cfg = defaultConfig := rfl
@[simp] theorem State.reset_requests : State.reset.requests = [] := rfl
@[simp] theorem State.reset_responses : State.reset.responses = [] := rfl

/-- The response an operation that may fail gives. -/
def responseOf (x : Except FailureKind Result) : Response :=
  match x with
  | .ok v => .ok v
  | .error k => .err k

/-- Answering is giving one response: all that `answer` can do. -/
theorem State.answer_eq_respond (x : Except FailureKind Result) (s : State) :
    s.answer x = s.respond (responseOf x) := by
  cases x <;> rfl

theorem resultOf_eq_ok {α : Type} {f : α → Result} {x : Except FailureKind α} {v : Result}
    (h : resultOf f x = .ok v) : ∃ a, x = .ok a ∧ v = f a := by
  cases x with
  | ok a => exact ⟨a, rfl, by simpa [resultOf] using h.symm⟩
  | error k => simp [resultOf] at h

theorem resultOf_eq_error {α : Type} {f : α → Result} {x : Except FailureKind α} {k : FailureKind} :
    resultOf f x = .error k ↔ x = .error k := by
  cases x <;> simp [resultOf]

/-- Receiving a command is giving one response, computed from the payload alone. -/
theorem receiveCommand_eq_respond (c : Command) (dec : Payload → Except FailureKind Data) (snd rcv : NodeIdentity)
    (p : Payload) (s : State) :
    receiveCommand c dec snd rcv p s =
      s.respond (responseOf (resultOf (fun d => .parsed snd rcv d) (checkedDecode c dec p))) :=
  State.answer_eq_respond _ s

/-- A request that is no instruction either is answered with a failure of the protocol, or is refused. -/
theorem onReject_next {r : Reject} {s t : State} (h : onReject r s = .next t) :
    ∃ k, r = .failure k ∧ t = s.raise k := by
  cases r with
  | failure k => exact ⟨k, rfl, by simpa [onReject] using h.symm⟩
  | reservedOpSelect => cases h
  | opSelectTooWide => cases h
  | identifierTooWide => cases h
  | unregisteredCommandOperand => cases h

end Sys2Proof.Machine
end

