-- ==== Sys2Proof/Laws/Wires.lean ====
section
/-! SUPPORT. What a bundle of wires is read as: each value read back from its own wires. -/

namespace Sys2Proof.Machine

@[simp] theorem readDir_dirWire (d : Dir) : readDir (dirWire d) = d := by cases d <;> rfl

@[simp] theorem readState_stateWire (st : SwitchState) : readState (stateWire st) = st := by cases st <;> rfl

@[simp] theorem readKind_kindWire (k : IdentifierKind) : readKind (kindWire k) = k := by cases k <;> rfl

/-- A Command wire reads as the command whose code it drives. -/
theorem readCommand_codeOf {t : CodeTable} (ht : t.Admissible) (c : Command) :
    readCommand t (codeOf t c) = some c := by
  rw [readCommand, lookupCommand_codeOf ht]; rfl

/-- A Command wire stands for no command exactly when it drives no code of the table (R44; log 11). -/
theorem readCommand_eq_none {t : CodeTable} {v : Code} :
    readCommand t v = none ↔ ∀ c : Command, codeOf t c ≠ v := by
  rw [readCommand]
  cases h : lookupCommand t v with
  | ok c => simpa [Except.toOption] using ⟨c, lookupCommand_ok h⟩
  | error k => simpa [Except.toOption] using (lookupCommand_error_iff.mp h).2

/-- The tag alone decides whether Data wires stand for a Data value (log 7). -/
theorem readData_eq_none {t : CodeTable} {w : DataWires} :
    readData t w = none ↔ readCommand t w.cmd = none := by
  simp only [readData]
  split <;> simp_all

/-- A Data value reads back from its own wires. -/
theorem readData_dataWires {t : CodeTable} (ht : t.Admissible) (d : Data) : readData t (dataWires t d) = some d := by
  cases d <;> simp [readData, dataWires, readCommand_codeOf ht]

/-- The length on the wires is the length of the payload read (R44). -/
theorem readPayload_length (w : PayloadWires) : (readPayload w).length = w.len.toNat := by
  have h := w.len.isLt
  simp [readPayload, lanes]
  omega

/-- A payload of at most eight bytes reads back from its own wires (R44). -/
theorem readPayload_payloadWires {p : Payload} (h : p.length ≤ 8) : readPayload (payloadWires p) = p := by
  match p, h with
  | [], _ => rfl
  | [_], _ => rfl
  | [_, _], _ => rfl
  | [_, _, _], _ => rfl
  | [_, _, _, _], _ => rfl
  | [_, _, _, _, _], _ => rfl
  | [_, _, _, _, _, _], _ => rfl
  | [_, _, _, _, _, _, _], _ => rfl
  | [_, _, _, _, _, _, _, _], _ => rfl

/-- A frame whose payload fits the lanes reads back from its own wires. -/
theorem readFrame_frameWires {f : Frame} (h : f.payload.length ≤ 8) : readFrame (frameWires f) = f := by
  simp [readFrame, frameWires, readPayload_payloadWires h]

end Sys2Proof.Machine
end

