-- ==== Sys2Proof/Machine/TextReader.lean ====
section
/-! DEFINITION. Reading the textual syntax of R87: characters to tokens, tokens to a term (log 20). A token is its
characters; a word starts a new token at every space and at every character that stands alone. -/

namespace Sys2Proof.Machine

/-! ### Tokens -/

/-- The characters of a word or a number; `::` and the dot of `.is_broadcast` belong to the word. -/
def isWordChar (c : Char) : Bool :=
  c.isAlphanum || c == '_' || c == ':' || c == '.'

/-- The word read so far, where there is one. -/
def flushWord (w : List Char) : List (List Char) :=
  if w.isEmpty then [] else [w]

/-- The tokens of a text, `w` being the word read so far. -/
def tokensFrom (w : List Char) : List Char → List (List Char)
  | [] => flushWord w
  | c :: cs =>
    if isWordChar c then tokensFrom (w ++ [c]) cs
    else if c.isWhitespace then flushWord w ++ tokensFrom [] cs
    else flushWord w ++ [c] :: tokensFrom [] cs

/-- The value of a digit in base 10 or 16. -/
def digitValue (base : Nat) (c : Char) : Option Nat :=
  let n := c.toNat
  let v := if 48 ≤ n ∧ n ≤ 57 then n - 48
    else if 65 ≤ n ∧ n ≤ 70 then n - 55
    else if 97 ≤ n ∧ n ≤ 102 then n - 87
    else 16
  if v < base then some v else none

/-- The number of a non-empty list of digits, `acc` being the value of those before. -/
def digitsValue (base acc : Nat) : List Char → Option Nat
  | [] => some acc
  | c :: cs =>
    match digitValue base c with
    | some v => digitsValue base (acc * base + v) cs
    | none => none

/-- A number: decimal, or hexadecimal after `0x` (R87). -/
def numberOf : List Char → Option Nat
  | [] => none
  | '0' :: 'x' :: [] => none
  | '0' :: 'x' :: cs => digitsValue 16 0 cs
  | cs => digitsValue 10 0 cs

/-! ### The pieces of a term: each answers what it read and the tokens behind it -/

/-- Exactly these tokens. -/
def readTokens : List String → List (List Char) → Option (List (List Char))
  | [], ts => some ts
  | w :: ws, t :: ts => if t = w.toList then readTokens ws ts else none
  | _ :: _, [] => none

/-- A number that fits `w` bits. -/
def readNumber (w : Nat) : List (List Char) → Option (BitVec w × List (List Char))
  | [] => none
  | t :: ts =>
    match numberOf t with
    | some n => if n < 2 ^ w then some (BitVec.ofNat w n, ts) else none
    | none => none

/-- A number in round brackets. -/
def readBracketed (w : Nat) (ts : List (List Char)) : Option (BitVec w × List (List Char)) := do
  let ts ← readTokens ["("] ts
  let (v, ts) ← readNumber w ts
  let ts ← readTokens [")"] ts
  return (v, ts)

/-- One of a list of words. -/
def readOneOf {α : Type} (table : List (String × α)) : List (List Char) → Option (α × List (List Char))
  | [] => none
  | t :: ts =>
    match table.find? (fun e => e.1.toList == t) with
    | some e => some (e.2, ts)
    | none => none

/-- `dir` of R87, in both of its spellings. -/
def readDirText : List (List Char) → Option (Dir × List (List Char)) :=
  readOneOf [("Cw", .cw), ("Ccw", .ccw), ("Dir::Cw", .cw), ("Dir::Ccw", .ccw)]

/-- `state` of R87. -/
def readStateText : List (List Char) → Option (SwitchState × List (List Char)) :=
  readOneOf [("Off", .off), ("On", .on)]

/-- A command's name (R25). -/
def readCommandText : List (List Char) → Option (Command × List (List Char)) :=
  readOneOf [("Stop", .stop), ("Ping", .ping), ("Pong", .pong), ("SetDuty", .setDuty),
    ("NotifySwitchState", .notifySwitchState)]

/-- An identifier kind's name (R27). -/
def readKindText : List (List Char) → Option (IdentifierKind × List (List Char)) :=
  readOneOf [("Standard", .standard), ("Extended", .extended)]

/-- `data` of R87. -/
def readDataText (ts : List (List Char)) : Option (Data × List (List Char)) := do
  let (c, ts) ← readCommandText ts
  match c with
  | .stop => return (.stop, ts)
  | .ping => return (.ping, ts)
  | .pong => return (.pong, ts)
  | .setDuty =>
    let ts ← readTokens ["(", "Channel"] ts
    let (ch, ts) ← readBracketed 8 ts
    let ts ← readTokens [",", "Duty"] ts
    let (du, ts) ← readBracketed 16 ts
    let ts ← readTokens [","] ts
    let (di, ts) ← readDirText ts
    let ts ← readTokens [")"] ts
    return (.setDuty ⟨ch⟩ ⟨du⟩ di, ts)
  | .notifySwitchState =>
    let ts ← readTokens ["(", "Channel"] ts
    let (ch, ts) ← readBracketed 8 ts
    let ts ← readTokens [","] ts
    let (st, ts) ← readStateText ts
    let ts ← readTokens [")"] ts
    return (.notifySwitchState ⟨ch⟩ st, ts)

/-- The bytes of a payload up to its closing bracket; `p` are those before. -/
def readBytes (p : Payload) : List (List Char) → Option (Payload × List (List Char))
  | b :: sep :: ts =>
    match readNumber 8 [b] with
    | some (v, _) =>
      if sep = [','] then readBytes (p ++ [v]) ts
      else if sep = [']'] then some (p ++ [v], ts)
      else none
    | none => none
  | _ => none

/-- `payload` of R87. -/
def readPayloadText (ts : List (List Char)) : Option (Payload × List (List Char)) :=
  match readTokens ["[", "]"] ts with
  | some ts => some ([], ts)
  | none =>
    match readTokens ["["] ts with
    | some ts => readBytes [] ts
    | none => none

/-- A frame literal of 95_test_vectors. -/
def readFrameText (ts : List (List Char)) : Option (Frame × List (List Char)) := do
  let ts ← readTokens ["Frame", String.singleton (Char.ofNat 123)] ts
  let (k, ts) ← readKindText ts
  let ts ← readTokens [","] ts
  let (v, ts) ← readNumber 29 ts
  let ts ← readTokens [","] ts
  let (p, ts) ← readPayloadText ts
  let ts ← readTokens [String.singleton (Char.ofNat 125)] ts
  return (⟨k, v, p⟩, ts)

/-- The three spellings of a node. -/
inductive NodeWord where
  | plain
  | new
  | broadcast
  deriving DecidableEq, Repr

/-- `value` of R87. -/
def readNodeText (ts : List (List Char)) : Option (NodeTerm × List (List Char)) := do
  let (w, ts) ← readOneOf [("NodeIdentity", .plain), ("NodeIdentity::new", .new),
    ("NodeIdentity::broadcast", NodeWord.broadcast)] ts
  match w with
  | .plain =>
    let (n, ts) ← readBracketed 8 ts
    return (.node n, ts)
  | .new =>
    let (n, ts) ← readBracketed 8 ts
    return (.new n, ts)
  | .broadcast =>
    let ts ← readTokens ["(", ")"] ts
    return (.broadcast, ts)

/-! ### Terms -/

/-- The operations written with their name first (R87). -/
inductive OpWord where
  | build
  | parse
  | pack
  | unpack
  | encode
  | decode
  deriving DecidableEq, Repr

/-- The operands of an operation, behind its opening bracket. -/
def readOperands (w : OpWord) (ts : List (List Char)) : Option (OpTerm × List (List Char)) := do
  match w with
  | .build =>
    let ts ← readTokens ["sender", "="] ts
    let (snd, ts) ← readNumber 8 ts
    let ts ← readTokens [",", "receiver", "="] ts
    let (rcv, ts) ← readNumber 8 ts
    let ts ← readTokens [","] ts
    let (d, ts) ← readDataText ts
    return (.build snd rcv d, ts)
  | .parse =>
    let (f, ts) ← readFrameText ts
    return (.parse f, ts)
  | .pack =>
    let (c, ts) ← readCommandText ts
    let ts ← readTokens [","] ts
    let (snd, ts) ← readNodeText ts
    let ts ← readTokens [","] ts
    let (rcv, ts) ← readNodeText ts
    return (.pack c snd rcv, ts)
  | .unpack =>
    let (k, ts) ← readKindText ts
    let ts ← readTokens [","] ts
    let (v, ts) ← readNumber 29 ts
    return (.unpack k v, ts)
  | .encode =>
    let (d, ts) ← readDataText ts
    return (.encode d, ts)
  | .decode =>
    let (c, ts) ← readCommandText ts
    let ts ← readTokens [","] ts
    let (p, ts) ← readPayloadText ts
    return (.decode c p, ts)

/-- `operation` of R87 and its brackets, or a `value`, alone or asked whether it is the broadcast one. -/
def readTerm (ts : List (List Char)) : Option (OpTerm × List (List Char)) :=
  match readOneOf [("build", .build), ("parse", .parse), ("pack", .pack), ("unpack", .unpack),
      ("encode", .encode), ("decode", OpWord.decode)] ts with
  | some (w, ts) => do
    let ts ← readTokens ["("] ts
    let (t, ts) ← readOperands w ts
    let ts ← readTokens [")"] ts
    return (t, ts)
  | none => do
    let (n, ts) ← readNodeText ts
    match readTokens [".is_broadcast", "(", ")"] ts with
    | some ts => return (.isBroadcast n, ts)
    | none => return (.value n, ts)

/-- The term a whole text stands for; `none` where it is no text of R87. -/
def termOfText (cs : List Char) : Option OpTerm :=
  match readTerm (tokensFrom [] cs) with
  | some (t, []) => some t
  | _ => none

/-- The instruction a text stands for (R87, R88). -/
def instrOfText (cs : List Char) : Option Instr :=
  (termOfText cs).map instrOfTerm

end Sys2Proof.Machine
end

