-- ==== Sys2Proof/Tests/Slice0.lean ====
section
/-! SUPPORT. Tests, their expected values taken from spec/95_test_vectors.md and the rules named, and one witness for
each statement that has hypotheses. -/

namespace Sys2Proof.Tests

open Sys2Proof.Machine

/-! ### Helpers -/

/-- The last response of an outcome. -/
def answerOf (o : Host.Outcome State Fault Refusal) : Option Response :=
  match o with
  | .next t => t.responses.getLast?
  | .fault _ => none
  | .refused _ => none

/-- The refusal of an outcome. -/
def refusalOf (o : Host.Outcome State Fault Refusal) : Option Refusal :=
  match o with
  | .next _ => none
  | .fault _ => none
  | .refused r => some r

/-- The fault of an outcome. -/
def faultOf (o : Host.Outcome State Fault Refusal) : Option Fault :=
  match o with
  | .next _ => none
  | .fault f => some f
  | .refused _ => none

/-- The reset state with requests presented. -/
def presenting (qs : List Request) : State := { State.reset with requests := qs }

/-- The state of 95 P4: a frame constructor that refuses payloads longer than 2 bytes. -/
def tight : State := { State.reset with cfg := ⟨defaultCode, ⟨2, []⟩⟩ }

/-! ### Well-formedness: one ill-formed term for each check -/

theorem test_wellFormed_refuses_nine_bytes : (Instr.stop ⟨1⟩ ⟨2⟩ [0, 0, 0, 0, 0, 0, 0, 0, 0]).wellFormed = false := by decide
theorem test_wellFormed_refuses_nine_bytes_decode :
    (Instr.plDecode .stop [0, 0, 0, 0, 0, 0, 0, 0, 0]).wellFormed = false := by decide
theorem test_wellFormed_refuses_wide_standard : (Instr.idUnpack .standard 0x800).wellFormed = false := by decide
theorem test_wellFormed_refuses_wide_standard_frame : (Instr.frParse ⟨.standard, 0x800, []⟩).wellFormed = false := by
  decide
theorem test_wellFormed_refuses_long_frame :
    (Instr.frParse ⟨.extended, 0, [0, 0, 0, 0, 0, 0, 0, 0, 0]⟩).wellFormed = false := by decide
theorem test_wellFormed_accepts_eight_bytes :
    (Instr.frParse ⟨.standard, 0x7FF, [0, 0, 0, 0, 0, 0, 0, 0]⟩).wellFormed = true := by decide

/-! ### Decoding: one word per constructor, written out from R70 and R75 (identifiers of 95 table 2.3) -/

theorem test_decode_stop : decode defaultCode (.xid29 1 0b00000000000000000001000011111111 {}) =
    .ok (.stop ⟨0x10⟩ ⟨0xFF⟩ []) := by decide
theorem test_decode_ping : decode defaultCode (.xid29 1 0b00000000000000010000000100000010 {}) =
    .ok (.ping ⟨1⟩ ⟨2⟩ []) := by decide
theorem test_decode_pong : decode defaultCode (.xid29 1 0b00000000000000101010101111001101 {}) =
    .ok (.pong ⟨0xAB⟩ ⟨0xCD⟩ []) := by decide
theorem test_decode_setDuty : decode defaultCode
    (.xid29 1 0b00000000001000000000010100000111 { len := 4, b0 := 2, b1 := 1, b2 := 0x2C }) =
    .ok (.setDuty ⟨5⟩ ⟨7⟩ [0x02, 0x01, 0x2C, 0x00]) := by decide
theorem test_decode_notifySwitchState : decode defaultCode
    (.xid29 1 0b00000000000010110000000100000000 { len := 2, b1 := 1 }) =
    .ok (.notifySwitchState ⟨1⟩ ⟨0⟩ [0x00, 0x01]) := by decide
theorem test_decode_nidNew : decode defaultCode (.opsel 0b0000 { raw := 0x2A }) = .ok (.nidNew 0x2A) := by decide
theorem test_decode_nidBroadcast : decode defaultCode (.opsel 0b0001 {}) = .ok .nidBroadcast := by decide
theorem test_decode_nidIsBroadcast : decode defaultCode (.opsel 0b0010 { n := 0xFE }) =
    .ok (.nidIsBroadcast ⟨0xFE⟩) := by decide
theorem test_decode_cmdCode : decode defaultCode (.opsel 0b0011 { c := 0x0020 }) = .ok (.cmdCode .setDuty) := by decide
theorem test_decode_cmdLookup : decode defaultCode (.opsel 0b0100 { v := 0x1FFF }) = .ok (.cmdLookup 0x1FFF) := by decide
theorem test_decode_cmdRange : decode defaultCode (.opsel 0b0101 { v := 0x15E0 }) = .ok (.cmdRange 0x15E0) := by decide
theorem test_decode_idPack : decode defaultCode (.opsel 0b0110 { c := 0x0001, s := 3, r := 4 }) =
    .ok (.idPack .ping ⟨3⟩ ⟨4⟩) := by decide
theorem test_decode_idUnpack : decode defaultCode (.opsel 0b0111 { k := 0, idval := 0x7FF }) =
    .ok (.idUnpack .standard 0x7FF) := by decide
theorem test_decode_plEncode : decode defaultCode
    (.opsel 0b1000 { d := { cmd := 0x0020, channel := 2, duty := 300, dir := 1 } }) =
    .ok (.plEncode (.setDuty ⟨2⟩ ⟨300⟩ .ccw)) := by decide
theorem test_decode_plDecode : decode defaultCode
    (.opsel 0b1001 { c := 0x000B, p := { len := 2, b0 := 7, b1 := 1, b2 := 0xEE } }) =
    .ok (.plDecode .notifySwitchState [7, 1]) := by decide
theorem test_decode_frBuild : decode defaultCode
    (.opsel 0b1010 { s := 9, r := 8, d := { cmd := 0x000B, channel := 4, state := 1 } }) =
    .ok (.frBuild ⟨9⟩ ⟨8⟩ (.notifySwitchState ⟨4⟩ .on)) := by decide
theorem test_decode_frParse : decode defaultCode
    (.opsel 0b1011 { f := { ext := 1, idval := 0x00010102, payload := { len := 1, b0 := 5 } } }) =
    .ok (.frParse ⟨.extended, 0x00010102, [5]⟩) := by decide

/-! ### Rejection by name -/

theorem test_reject_unknown_code : decode defaultCode (.xid29 1 0x00030000 {}) = .error (.failure .unknownCommand) := by
  decide
theorem test_reject_standard : decode defaultCode (.xid29 0 0x00000000 {}) = .error (.failure .wrongIdentifierKind) := by
  decide
theorem test_reject_reserved_first : refusalOf (step (presenting [.opsel 0xC {}])) = some .reservedOpSelect := by decide
theorem test_reject_reserved_last : refusalOf (step (presenting [.opsel 0xF {}])) = some .reservedOpSelect := by decide
theorem test_reject_wide_select : refusalOf (step (presenting [.opsel 0x10 {}])) = some .opSelectTooWide := by decide
theorem test_reject_wide_identifier :
    refusalOf (step (presenting [.xid29 1 0x20000000 {}])) = some .identifierTooWide := by decide
theorem test_reject_unregistered_operand :
    refusalOf (step (presenting [.opsel 0x3 { c := 0x0003 }])) = some .unregisteredCommandOperand := by decide

/-! ### The host's table words (opcode_table.json) -/

theorem test_word_setDuty : decodeTableWord 32 0x00200000 = some (.setDuty ⟨0⟩ ⟨0⟩ [0, 0, 0, 0]) := by decide
theorem test_word_notifySwitchState : decodeTableWord 32 0x000B0000 = some (.notifySwitchState ⟨0⟩ ⟨0⟩ [0, 0]) := by
  decide
theorem test_word_frParse : decodeTableWord 8 0xB = some (.frParse ⟨.standard, 0, []⟩) := by decide
theorem test_word_reserved : decodeTableWord 8 0xC = none := by decide
theorem test_word_runs : answerOf (step (State.reset.withFetchWord 32 0x00200000)) =
    some (.ok (.parsed ⟨0⟩ ⟨0⟩ (.setDuty ⟨0⟩ ⟨0⟩ .cw))) := by decide

/-! ### Meanings (95 tables 2.1 to 2.7) -/

theorem test_nidNew : answerOf (exec (.nidNew 0x2A) State.reset) = some (.ok (.node ⟨0x2A⟩)) := by decide
theorem test_nidBroadcast : answerOf (exec .nidBroadcast State.reset) = some (.ok (.node ⟨0xFF⟩)) := by decide
theorem test_nidIsBroadcast_ff : answerOf (exec (.nidIsBroadcast ⟨0xFF⟩) State.reset) = some (.ok (.bit 1)) := by decide
theorem test_nidIsBroadcast_fe : answerOf (exec (.nidIsBroadcast ⟨0xFE⟩) State.reset) = some (.ok (.bit 0)) := by decide
theorem test_cmdCode_notify : answerOf (exec (.cmdCode .notifySwitchState) State.reset) = some (.ok (.code 0x000B)) := by
  decide
theorem test_cmdCode_setDuty : answerOf (exec (.cmdCode .setDuty) State.reset) = some (.ok (.code 0x0020)) := by decide
theorem test_cmdLookup_found : answerOf (exec (.cmdLookup 0x0020) State.reset) = some (.ok (.command .setDuty)) := by
  decide
theorem test_cmdLookup_missing : answerOf (exec (.cmdLookup 0x0B00) State.reset) = some (.err .unknownCommand) := by
  decide
theorem test_cmdRange_lasts :
    [0x0000, 0x001F, 0x0AFF, 0x15DF, 0x1FFF].map (fun v => answerOf (exec (.cmdRange v) State.reset)) =
      [.system, .system, .control, .telemetry, .config].map (fun g => some (.ok (.range g))) := by decide
theorem test_cmdRange_firsts :
    [0x0020, 0x0B00, 0x15E0].map (fun v => answerOf (exec (.cmdRange v) State.reset)) =
      [.control, .telemetry, .config].map (fun g => some (.ok (.range g))) := by decide
theorem test_idPack_source : answerOf (exec (.idPack .notifySwitchState ⟨1⟩ ⟨0⟩) State.reset) =
    some (.ok (.ident 0x000B0100)) := by decide
theorem test_idPack_fields : answerOf (exec (.idPack .pong ⟨0xAB⟩ ⟨0xCD⟩) State.reset) =
    some (.ok (.ident 0x0002ABCD)) := by decide
theorem test_idUnpack_ok : answerOf (exec (.idUnpack .extended 0x0002ABCD) State.reset) =
    some (.ok (.unpacked .pong ⟨0xAB⟩ ⟨0xCD⟩)) := by decide
theorem test_idUnpack_standard : answerOf (exec (.idUnpack .standard 0x000B0100) State.reset) =
    some (.err .wrongIdentifierKind) := by decide
theorem test_plEncode_source : answerOf (exec (.plEncode (.setDuty ⟨2⟩ ⟨300⟩ .cw)) State.reset) =
    some (.ok (.payload [0x02, 0x01, 0x2C, 0x00])) := by decide
theorem test_plEncode_notify : answerOf (exec (.plEncode (.notifySwitchState ⟨128⟩ .on)) State.reset) =
    some (.ok (.payload [0x80, 0x01])) := by decide
theorem test_plDecode_swapped : answerOf (exec (.plDecode .setDuty [0x02, 0x2C, 0x01, 0x01]) State.reset) =
    some (.ok (.data (.setDuty ⟨2⟩ ⟨11265⟩ .ccw))) := by decide
theorem test_plDecode_length_first : answerOf (exec (.plDecode .setDuty [0, 0, 0, 7, 7]) State.reset) =
    some (.err .malformedPayloadLength) := by decide
theorem test_frBuild_source : answerOf (exec (.frBuild ⟨1⟩ ⟨0⟩ (.notifySwitchState ⟨0⟩ .on)) State.reset) =
    some (.ok (.frame ⟨.extended, 0x000B0100, [0x00, 0x01]⟩)) := by decide
theorem test_frBuild_fatal : faultOf (exec (.frBuild ⟨1⟩ ⟨3⟩ (.setDuty ⟨0⟩ ⟨1000⟩ .cw)) tight) = some .buildFatal := by
  decide
theorem test_frParse_ok : answerOf (exec (.frParse ⟨.extended, 0x00200507, [0x02, 0x01, 0x2C, 0x00]⟩) State.reset) =
    some (.ok (.parsed ⟨5⟩ ⟨7⟩ (.setDuty ⟨2⟩ ⟨300⟩ .cw))) := by decide
theorem test_frParse_kind_first : answerOf (exec (.frParse ⟨.standard, 0x7FF, [0x00, 0x02, 0x09]⟩) State.reset) =
    some (.err .wrongIdentifierKind) := by decide
theorem test_stop_ok : answerOf (exec (.stop ⟨0x10⟩ ⟨0xFF⟩ []) State.reset) =
    some (.ok (.parsed ⟨0x10⟩ ⟨0xFF⟩ .stop)) := by decide
theorem test_stop_one_byte : answerOf (exec (.stop ⟨0x01⟩ ⟨0x02⟩ [0x00]) State.reset) =
    some (.err .malformedPayloadLength) := by decide
theorem test_ping_ok : answerOf (exec (.ping ⟨1⟩ ⟨2⟩ []) State.reset) = some (.ok (.parsed ⟨1⟩ ⟨2⟩ .ping)) := by decide
theorem test_ping_two_bytes : answerOf (exec (.ping ⟨1⟩ ⟨2⟩ [0, 0]) State.reset) =
    some (.err .malformedPayloadLength) := by decide
theorem test_pong_ok : answerOf (exec (.pong ⟨2⟩ ⟨1⟩ []) State.reset) = some (.ok (.parsed ⟨2⟩ ⟨1⟩ .pong)) := by decide
theorem test_pong_eight_bytes : answerOf (exec (.pong ⟨1⟩ ⟨2⟩ [1, 2, 3, 4, 5, 6, 7, 8]) State.reset) =
    some (.err .malformedPayloadLength) := by decide
theorem test_setDuty_ok : answerOf (exec (.setDuty ⟨0x10⟩ ⟨0x20⟩ [0x03, 0xAB, 0xCD, 0x01]) State.reset) =
    some (.ok (.parsed ⟨0x10⟩ ⟨0x20⟩ (.setDuty ⟨3⟩ ⟨43981⟩ .ccw))) := by decide
theorem test_setDuty_bad_direction : answerOf (exec (.setDuty ⟨5⟩ ⟨7⟩ [0x02, 0x01, 0x2C, 0x02]) State.reset) =
    some (.err .invalidEnumValue) := by decide
theorem test_notifySwitchState_off : answerOf (exec (.notifySwitchState ⟨0xFF⟩ ⟨0xFF⟩ [0xFF, 0x00]) State.reset) =
    some (.ok (.parsed ⟨0xFF⟩ ⟨0xFF⟩ (.notifySwitchState ⟨255⟩ .off))) := by decide
theorem test_notifySwitchState_bad_state : answerOf (exec (.notifySwitchState ⟨1⟩ ⟨0⟩ [0x00, 0x02]) State.reset) =
    some (.err .invalidEnumValue) := by decide

/-- 95 part 3: the other admissible table of conflict C1. -/
theorem test_other_table : parseFrame { defaultCode with notifySwitchState := 0x0B00 }
    ⟨.extended, 0x0B000100, [0x00, 0x01]⟩ = .ok (⟨1⟩, ⟨0⟩, .notifySwitchState ⟨0⟩ .on) := by decide

/-! ### Text (R87; the literal forms of 95 S1 and S2) -/

theorem test_text_build : opText (.build 1 0 (.notifySwitchState ⟨0⟩ .on)) =
    "build(sender=1, receiver=0, NotifySwitchState(Channel(0), On))".toList := by decide
theorem test_text_payload : payloadText [0x02, 0x01, 0x2C, 0x00] = "[0x02, 0x01, 0x2C, 0x00]".toList := by decide
theorem test_text_result : parseResultText (.ok (.parsed ⟨1⟩ ⟨0⟩ (.setDuty ⟨2⟩ ⟨300⟩ .cw))) =
    some "Some((NodeIdentity(1), NodeIdentity(0), SetDuty(Channel(2), Duty(300), Cw)))".toList := by decide
theorem test_read_build :
    instrOfText "build(sender=1, receiver=0, NotifySwitchState(Channel(0), On))".toList =
      some (.frBuild ⟨1⟩ ⟨0⟩ (.notifySwitchState ⟨0⟩ .on)) := by decide
theorem test_read_encode : instrOfText "encode(SetDuty(Channel(2), Duty(300), Dir::Cw))".toList =
    some (.plEncode (.setDuty ⟨2⟩ ⟨300⟩ .cw)) := by decide
theorem test_read_is_broadcast : instrOfText "NodeIdentity::new(0xFF).is_broadcast()".toList =
    some (.nidIsBroadcast ⟨0xFF⟩) := by decide
/-- 95 P3 line 4, with the frame's brackets given as characters. -/
theorem test_read_parse : instrOfText ("parse(Frame".toList ++ [Char.ofNat 123] ++
      "Extended, 0x00200507, [0x02, 0x01, 0x2C]".toList ++ [Char.ofNat 125] ++ ")".toList) =
    some (.frParse ⟨.extended, 0x00200507, [0x02, 0x01, 0x2C]⟩) := by decide
theorem test_read_pack : instrOfText "pack(Stop, NodeIdentity::broadcast(), NodeIdentity(7))".toList =
    some (.idPack .stop ⟨0xFF⟩ ⟨7⟩) := by decide
theorem test_read_too_wide : instrOfText "NodeIdentity(256)".toList = none := by decide
theorem test_read_trailing : instrOfText "NodeIdentity(2))".toList = none := by decide

/-! ### Witnesses: the hypotheses of each statement can be met together -/

theorem witness_admissible : defaultCode.Admissible := (distinct_iff_admissible _).mp (by decide)

theorem witness_accepts : State.reset.cfg.ctor.AcceptsUpTo 8 := fun v p h => ⟨⟨.extended, v, p⟩, if_pos h⟩

theorem witness_faithful : State.reset.cfg.ctor.Faithful := by
  intro v p f h
  have h' : (if p.length ≤ 8 then some (Frame.mk .extended v p) else none) = some f := h
  split at h'
  · cases h'; exact ⟨rfl, rfl, rfl⟩
  · cases h'

theorem witness_BroadcastAliasing :
    exec .nidBroadcast State.reset = .next { State.reset with responses := [.ok (.node ⟨0xFF⟩)] } ∧
    exec (.nidNew 0xFF) State.reset = .next { State.reset with responses := [.ok (.node ⟨0xFF⟩)] } := ⟨rfl, rfl⟩

theorem witness_CmdLookupFindsExactlyTheRegistered : State.reset.cfg.code.Admissible ∧
    codeOf State.reset.cfg.code .setDuty = 0x0020 ∧ ∀ c, codeOf State.reset.cfg.code c ≠ 0x0021 :=
  ⟨witness_admissible, rfl, fun c => by cases c <;> decide⟩

theorem witness_CmdCodeAndLookupAreInverse : State.reset.cfg.code.Admissible ∧ tight.cfg.code = State.reset.cfg.code ∧
    exec (.cmdCode .pong) State.reset = .next { State.reset with responses := [.ok (.code 0x0002)] } :=
  ⟨witness_admissible, rfl, rfl⟩

theorem witness_IdUnpackStages : State.reset.cfg.code.Admissible ∧
    codeOf State.reset.cfg.code .notifySwitchState = (0x000B0100 : Ident).extractLsb 28 16 ∧
    ∀ c, codeOf State.reset.cfg.code c ≠ (0x1FFFFFFF : Ident).extractLsb 28 16 :=
  ⟨witness_admissible, by decide, fun c => by cases c <;> decide⟩

theorem witness_IdPackAndUnpackAreInverse : State.reset.cfg.code.Admissible ∧
    exec (.idPack .setDuty ⟨0xFF⟩ ⟨0xFF⟩) State.reset =
      .next { State.reset with responses := [.ok (.ident 0x0020FFFF)] } := ⟨witness_admissible, rfl⟩

theorem witness_PlDecodeRejectsEveryOtherLength :
    ([1] : Payload).length ≠ 0 ∧ ([1, 2, 3] : Payload).length ≠ 4 ∧ ([1, 2, 3, 4, 5] : Payload).length ≠ 4 ∧
    ([1] : Payload).length ≠ 2 ∧ ([1, 2, 3] : Payload).length ≠ 2 := by decide

theorem witness_PlDecodeFields : (0x012C : Half).toNat = (0x01 : Byte).toNat * 256 + (0x2C : Byte).toNat ∧
    (0xFFFF : Half).toNat = (0xFF : Byte).toNat * 256 + (0xFF : Byte).toNat ∧ defaultCode.Admissible ∧
    ([0, 1, 2, 3, 4, 5, 6, 7] : Payload).length ≤ 8 := ⟨by decide, by decide, witness_admissible, by decide⟩

theorem witness_PlDecodeIgnoresLanesAboveLength :
    (∀ i < 2, (lanes { len := 2, b1 := 1, b2 := 9 })[i]? = (lanes { len := 2, b1 := 1, b2 := 7 })[i]?) ∧
    (∀ i < 9, (lanes { len := 9, b7 := 1 })[i]? = (lanes { len := 9, b7 := 1 })[i]?) := by decide

theorem witness_SetDutyReceived : ([] : Payload).length ≠ 4 ∧
    (0x012C : Half).toNat = (0x01 : Byte).toNat * 256 + (0x2C : Byte).toNat ∧ defaultCode.Admissible :=
  ⟨by decide, by decide, witness_admissible⟩

theorem witness_NotifySwitchStateReceived : ([1, 2, 3] : Payload).length ≠ 2 ∧ defaultCode.Admissible :=
  ⟨by decide, witness_admissible⟩

theorem witness_FrBuildHandsConstructorPackAndEncode :
    exec (.idPack .stop ⟨1⟩ ⟨2⟩) State.reset = .next { State.reset with responses := [.ok (.ident 0x0102)] } ∧
    exec (.plEncode .stop) State.reset = .next { State.reset with responses := [.ok (.payload [])] } ∧
    ctorApply State.reset.cfg.ctor 0x0102 [] = some ⟨.extended, 0x0102, []⟩ ∧
    ctorApply tight.cfg.ctor 0x00200103 [0x00, 0x03, 0xE8, 0x00] = none := ⟨rfl, rfl, rfl, rfl⟩

theorem witness_FrBuildCompletesWhenConstructorAccepts :
    4 ≤ 8 ∧ State.reset.cfg.ctor.AcceptsUpTo 8 ∧ State.reset.cfg.ctor.Faithful :=
  ⟨by decide, witness_accepts, witness_faithful⟩

theorem witness_FrBuildFaultsExactlyAboveCap : tight.cfg.ctor = ⟨2, []⟩ ∧
    2 < payloadLength .setDuty ∧ ¬ 2 < payloadLength .notifySwitchState := by decide

theorem witness_FrParseStages : State.reset.cfg.code.Admissible ∧
    codeOf State.reset.cfg.code .ping = (0x00010102 : Ident).extractLsb 28 16 ∧
    exec (.plDecode .ping [0]) State.reset =
      .next { State.reset with responses := [.err .malformedPayloadLength] } ∧
    exec (.plDecode .ping []) State.reset = .next { State.reset with responses := [.ok (.data .ping)] } :=
  ⟨witness_admissible, by decide, rfl, rfl⟩

theorem witness_OptionalViewOfFrParse :
    exec (.frParse ⟨.standard, 0, []⟩) State.reset =
      .next { State.reset with responses := [.err .wrongIdentifierKind] } ∧
    exec (.frParse ⟨.extended, 0, []⟩) State.reset =
      .next { State.reset with responses := [.ok (.parsed ⟨0⟩ ⟨0⟩ .stop)] } := ⟨rfl, rfl⟩

theorem witness_ParseOfBuildIsIdentity : State.reset.cfg.code.Admissible ∧ State.reset.cfg.ctor.Faithful ∧
    exec (.frBuild ⟨1⟩ ⟨2⟩ .ping) State.reset =
      .next { State.reset with responses := [.ok (.frame ⟨.extended, 0x00010102, []⟩)] } :=
  ⟨witness_admissible, witness_faithful, rfl⟩

theorem witness_BuildOfParseHandsTheSameFrame :
    exec (.frParse ⟨.extended, 0x00010102, []⟩) State.reset =
      .next { State.reset with responses := [.ok (.parsed ⟨1⟩ ⟨2⟩ .ping)] } ∧
    exec (.frBuild ⟨1⟩ ⟨2⟩ .ping) State.reset =
      .next { State.reset with responses := [.ok (.frame ⟨.extended, 0x00010102, []⟩)] } := ⟨rfl, rfl⟩

theorem witness_AddressesNeverDecideAParse :
    exec (.frParse ⟨.extended, (0x0001 : Code) ++ (1 : Byte) ++ (2 : Byte), []⟩) State.reset =
      .next { State.reset with responses := [.ok (.parsed ⟨1⟩ ⟨2⟩ .ping)] } ∧
    exec (.frParse ⟨.extended, (0x0003 : Code) ++ (1 : Byte) ++ (2 : Byte), []⟩) State.reset =
      .next { State.reset with responses := [.err .unknownCommand] } := ⟨rfl, rfl⟩

theorem witness_ForeignTrafficThatFits : State.reset.cfg.code = defaultCode ∧
    (0x0002FFFF : Ident).toNat < 0x00030000 := by decide

theorem witness_AnswersDependOnOperandsAndParametersAlone : (presenting [.opsel 0 {}]).cfg = State.reset.cfg ∧
    exec .nidBroadcast State.reset = .next { State.reset with responses := [.ok (.node ⟨0xFF⟩)] } ∧
    exec (.frBuild ⟨0⟩ ⟨0⟩ (.setDuty ⟨0⟩ ⟨0⟩ .cw)) tight = .fault .buildFatal := ⟨rfl, rfl, rfl⟩

theorem witness_CodeTableIsNotConsulted :
    exec (commandInstr .stop ⟨0⟩ ⟨0⟩ []) State.reset =
      .next { State.reset with responses := [.ok (.parsed ⟨0⟩ ⟨0⟩ .stop)] } := rfl

theorem witness_DecodeOfEncode : defaultCode.Admissible ∧
    (Instr.setDuty ⟨1⟩ ⟨2⟩ [1, 2, 3, 4, 5, 6, 7, 8]).wellFormed = true := ⟨witness_admissible, by decide⟩

theorem witness_MaskAndMatchSelectTheCommand : (0x1FFFFFFF : BitVec 32).toNat < 2 ^ 29 := by decide

theorem witness_ReservedOperationSelectIsRefused : 0xC ≤ (0xC : Byte).toNat ∧ (0xF : Byte).toNat ≤ 0xF ∧
    (presenting [.opsel 0xC {}]).requests = .opsel 0xC {} :: [] := ⟨by decide, by decide, rfl⟩

theorem witness_WiderContainersAreRefused : 2 ^ 29 ≤ (0x20000000 : BitVec 32).toNat ∧ 16 ≤ (0x10 : Byte).toNat ∧
    (presenting [.xid29 1 0x20000000 {}]).requests = .xid29 1 0x20000000 {} :: [] := ⟨by decide, by decide, rfl⟩

theorem witness_UnregisteredCommandOperandIsRefused :
    (∀ c, codeOf (presenting [.opsel 0x3 { c := 0x1FFF }]).cfg.code c ≠ 0x1FFF) ∧
    step (presenting [.opsel 0x3 { c := 0x1FFF }]) = .refused .unregisteredCommandOperand ∧
    step (presenting [.opsel 0xA { d := { cmd := 3 } }]) = .refused .unregisteredCommandOperand ∧
    step (presenting [.opsel 0x4 { c := 0x1FFF, d := { cmd := 3 } }]) =
      .next { State.reset with responses := [.ok (.command .stop)] } :=
  ⟨fun c => by cases c <;> decide, rfl, rfl, rfl⟩

theorem witness_StepRunsTheDecodedInstruction :
    (presenting [.opsel 0x1 {}]).requests = .opsel 0x1 {} :: [] ∧
    decode (presenting [.opsel 0x1 {}]).cfg.code (.opsel 0x1 {}) = .ok .nidBroadcast := ⟨rfl, rfl⟩

theorem witness_TableWordRunsFirstAfterReset : decodeTableWord 8 0x1 = some .nidBroadcast := rfl

theorem witness_StepCompletesUnderAcceptance : (presenting [.xid29 0 0 {}]).cfg.ctor.AcceptsUpTo 4 ∧
    decode (presenting [.xid29 0 0 {}]).cfg.code (.xid29 0 0 {}) = .error (.failure .wrongIdentifierKind) ∧
    decode (presenting [.opsel 0x1 {}]).cfg.code (.opsel 0x1 {}) = .ok .nidBroadcast :=
  ⟨fun v p h => witness_accepts v p (by omega), rfl, rfl⟩

theorem witness_StepIdlesWithoutRequest : State.reset.requests = [] := rfl

theorem witness_StepTakesOneRequestAndGivesOneResponse :
    step (presenting [.opsel 0x1 {}]) = .next { State.reset with responses := [.ok (.node ⟨0xFF⟩)] } ∧
    step State.reset = .next State.reset := ⟨rfl, rfl⟩

theorem witness_ReceivedFrameIsAnsweredAsFrParse :
    (presenting [.xid29 1 0x00010102 {}]).requests = .xid29 1 0x00010102 {} :: [] ∧
    (0x00010102 : BitVec 32).toNat < 2 ^ 29 := ⟨rfl, by decide⟩

theorem witness_BuiltFrameIsReceivedOverTheWires : State.reset.cfg.code.Admissible ∧
    State.reset.cfg.ctor.Faithful ∧
    exec (.frBuild ⟨1⟩ ⟨2⟩ .ping) State.reset =
      .next { State.reset with responses := [.ok (.frame ⟨.extended, 0x00010102, []⟩)] } ∧
    (presenting [.xid29 1 0x00010102 {}]).requests =
      .xid29 (frameWires ⟨.extended, 0x00010102, []⟩).ext
        ((frameWires ⟨.extended, 0x00010102, []⟩).idval.setWidth 32)
        (frameWires ⟨.extended, 0x00010102, []⟩).payload :: [] :=
  ⟨witness_admissible, witness_faithful, rfl, by decide⟩

theorem witness_RunAnswersEachRequestAsAlone :
    Host.Core.run Sys2Proof.core 2 (presenting [.opsel 0x1 {}, .opsel 0x5 {}]) =
      .next { State.reset with responses := [.ok (.node ⟨0xFF⟩), .ok (.range .system)] } := rfl

theorem witness_OrderOfRequestsDoesNotMatter :
    (presenting [.opsel 0x1 {}, .opsel 0x5 {}]).requests.Perm [.opsel 0x5 {}, .opsel 0x1 {}] ∧
    Host.Core.run Sys2Proof.core 2 (presenting [.opsel 0x1 {}, .opsel 0x5 {}]) =
      .next { State.reset with responses := [.ok (.node ⟨0xFF⟩), .ok (.range .system)] } :=
  ⟨List.Perm.swap _ _ _, rfl⟩

theorem witness_StepKeepsInvariant : (presenting [.opsel 0x1 {}]).Inv ∧
    step (presenting [.opsel 0x1 {}]) = .next { State.reset with responses := [.ok (.node ⟨0xFF⟩)] } :=
  ⟨⟨⟨witness_admissible, witness_faithful⟩, fun _ h => by cases h⟩, rfl⟩

theorem witness_FirstOperationAfterResetIsOrdinary : (presenting [.opsel 0x1 {}]).cfg = State.reset.cfg ∧
    exec .nidBroadcast State.reset = .next { State.reset with responses := [.ok (.node ⟨0xFF⟩)] } := ⟨rfl, rfl⟩

theorem witness_ResponseWiresCarryTheResponse : defaultCode.Admissible ∧
    (Response.ok (.payload [1, 2])).Legal defaultCode ∧
    carries defaultCode { status := 1, payload := { len := 9 } } (.err .wrongIdentifierKind) = true ∧
    (Instr.nidNew 0).admits (.ok (.node ⟨0⟩)) = true := ⟨witness_admissible, .inr (.inl rfl), by decide, by decide⟩

theorem witness_TwoByteReadIsBigEndian : memRead1 [9, 1, 0x2C] 1 = some 1 ∧ memRead1 [9, 1, 0x2C] 2 = some 0x2C ∧
    1 + 2 ≤ ([9, 1, 0x2C] : Payload).length ∧ memRead2 [9, 1, 0x2C] 1 = some 300 := by decide

end Sys2Proof.Tests
end

