-- ==== Sys2Proof/Proofs/Scope.lean ====
section
/-! PROOF. The payload access of R8 and R55, from its one-byte accesses, and what a step does with a request that
decodes. -/

namespace Sys2Proof.Machine

/-! ### One-byte access -/

/-- Writing back the byte that stands at an index changes nothing. -/
theorem memWrite1_of_memRead1 {p : Payload} {i : Nat} {b : Byte} (h : memRead1 p i = some b) :
    memWrite1 p i b = p := by
  obtain ⟨hlt, rfl⟩ := List.getElem?_eq_some_iff.mp h
  exact List.set_getElem_self hlt

theorem memRead1_memWrite1_self {p : Payload} {i : Nat} (b : Byte) (h : i < p.length) :
    memRead1 (memWrite1 p i b) i = some b :=
  List.getElem?_set_self h

theorem memRead1_memWrite1_of_ne {p : Payload} {i j : Nat} (b : Byte) (h : i ≠ j) :
    memRead1 (memWrite1 p i b) j = memRead1 p j :=
  List.getElem?_set_ne h

@[simp] theorem memWrite1_length (p : Payload) (i : Nat) (b : Byte) : (memWrite1 p i b).length = p.length :=
  List.length_set

/-! ### Two-byte access, as two one-byte accesses (R56) -/

/-- The more significant byte is written first (R55). -/
theorem memWrite2_eq_memWrite1 (p : Payload) (i : Nat) (v : Half) :
    memWrite2 p i v = memWrite1 (memWrite1 p i (v.extractLsb' 8 8)) (i + 1) (v.extractLsb' 0 8) := rfl

/-- A two-byte read answers exactly the big-endian join of the two bytes read (R55). -/
theorem memRead2_eq_some_iff {p : Payload} {i : Nat} {w : Half} :
    memRead2 p i = some w ↔ ∃ hi lo : Byte, memRead1 p i = some hi ∧ memRead1 p (i + 1) = some lo ∧
      (hi.zeroExtend 16 <<< 8) ||| lo.zeroExtend 16 = w := by
  simp only [memRead1, memRead2]
  cases p[i]? <;> cases p[i + 1]? <;> simp

/-- As a number, the join is 256 times the first byte plus the second (R8). -/
theorem toNat_join (hi lo : Byte) :
    ((hi.zeroExtend 16 <<< 8) ||| lo.zeroExtend 16).toNat = hi.toNat * 256 + lo.toNat := by
  have hhi := hi.isLt
  have hlo := lo.isLt
  calc ((hi.zeroExtend 16 <<< 8) ||| lo.zeroExtend 16).toNat
      = (hi.toNat <<< 8) ||| lo.toNat := by
        simp [Nat.shiftLeft_eq, Nat.mod_eq_of_lt (show hi.toNat * 256 < 65536 by omega),
          Nat.mod_eq_of_lt (show lo.toNat < 65536 by omega)]
    _ = hi.toNat <<< 8 + lo.toNat := (Nat.shiftLeft_add_eq_or_of_lt hlo _).symm
    _ = hi.toNat * 256 + lo.toNat := by rw [Nat.shiftLeft_eq]

/-- A two-byte read is defined exactly when both bytes exist (R8). -/
theorem memRead2_isSome_iff (p : Payload) (i : Nat) : (memRead2 p i).isSome ↔ i + 2 ≤ p.length := by
  constructor
  · intro h
    obtain ⟨w, hw⟩ := Option.isSome_iff_exists.mp h
    obtain ⟨_, _, _, hlo, _⟩ := memRead2_eq_some_iff.mp hw
    exact (List.getElem?_eq_some_iff.mp hlo).1
  · intro h
    exact Option.isSome_iff_exists.mpr ⟨_, memRead2_eq_some_iff.mpr
      ⟨_, _, List.getElem?_eq_getElem (by omega), List.getElem?_eq_getElem h, rfl⟩⟩

/-- A two-byte read gives the half just written there. -/
theorem memRead2_memWrite2 {p : Payload} {i : Nat} (v : Half) (h : i + 2 ≤ p.length) :
    memRead2 (memWrite2 p i v) i = some v := by
  rw [memWrite2_eq_memWrite1]
  refine memRead2_eq_some_iff.mpr ⟨_, _, ?_, ?_, join_halves v⟩
  · rw [memRead1_memWrite1_of_ne _ (by omega)]
    exact memRead1_memWrite1_self _ (by omega)
  · exact memRead1_memWrite1_self _ (by rw [memWrite1_length]; omega)

/-- Writing back the half that was read changes nothing: its halves are the two bytes that stand there. -/
theorem memWrite2_of_memRead2 {p : Payload} {i : Nat} {w : Half} (h : memRead2 p i = some w) :
    memWrite2 p i w = p := by
  obtain ⟨hi, lo, hhi, hlo, rfl⟩ := memRead2_eq_some_iff.mp h
  rw [memWrite2_eq_memWrite1, split_join_hi, split_join_lo, memWrite1_of_memRead1 hhi,
    memWrite1_of_memRead1 hlo]

/-! ### The step -/

/-- A step on a request that decodes is `exec` of its instruction, the request taken (R13, R40). -/
theorem step_of_decode {s : State} {r : Request} {rest : List Request} {i : Instr} (hr : s.requests = r :: rest)
    (hd : decode s.cfg.code r = .ok i) : step s = exec i (s.takeRequest rest) := by
  simp only [step, hr, hd]

end Sys2Proof.Machine

namespace Sys2Proof.Proofs

open Sys2Proof.Machine

/-- Settles O54: a two-byte access is two one-byte accesses, and joining two bytes inverts splitting a half. -/
theorem twoByteReadIsBigEndian : Obligations.TwoByteReadIsBigEndian := by
  intro p i
  refine ⟨?_, memRead2_isSome_iff p i, ?_⟩
  · intro hi lo hhi hlo
    exact ⟨_, memRead2_eq_some_iff.mpr ⟨hi, lo, hhi, hlo, rfl⟩, toNat_join hi lo⟩
  · intro v w h
    exact ⟨memRead2_memWrite2 v h, memWrite2_of_memRead2⟩

/-- Settles O39, by the rule for a step on a request that decodes. -/
theorem stepRunsTheDecodedInstruction : Obligations.StepRunsTheDecodedInstruction :=
  fun _ _ _ _ hr hd => step_of_decode hr hd

end Sys2Proof.Proofs
end

/-! PROOF. What each instruction answers, as one function of the parameters and the operands; what a step can do; and the
response read back from the wires by a host that knows the instruction it asked for. -/

namespace Sys2Proof.Machine

/-! ### Which failures the pure operations have, and which command a decoded value has -/

theorem lookupCommand_error {t : CodeTable} {v : Code} {k : FailureKind} (h : lookupCommand t v = .error k) :
    k = .unknownCommand :=
  (lookupCommand_error_iff.mp h).1

/-- ID_UNPACK fails by the kind or by the code, never later (R131). -/
theorem unpackIdent_error {t : CodeTable} {kd : IdentifierKind} {v : Ident} {k : FailureKind}
    (h : unpackIdent t kd v = .error k) : k = .wrongIdentifierKind ∨ k = .unknownCommand := by
  cases kd with
  | standard => cases h; exact .inl rfl
  | extended =>
    cases hl : lookupCommand t (codeField v) with
    | ok c => simp [unpackIdent, hl] at h
    | error k' =>
      have hk : k' = k := by simpa [unpackIdent, hl] using h
      exact .inr (hk ▸ lookupCommand_error hl)

theorem dirDecode_error {b : Byte} {k : FailureKind} (h : dirDecode b = .error k) : k = .invalidEnumValue := by
  unfold dirDecode at h
  split_ifs at h
  cases h; rfl

theorem stateDecode_error {b : Byte} {k : FailureKind} (h : stateDecode b = .error k) : k = .invalidEnumValue := by
  unfold stateDecode at h
  split_ifs at h
  cases h; rfl

/-- The commands whose payload holds an enumeration byte (R79). -/
def hasEnumByte : Command → Bool
  | .setDuty => true
  | .notifySwitchState => true
  | _ => false

/-- A decoder answers a value of its own command (R141). -/
theorem decoderOf_ok {c : Command} {p : Payload} {d : Data} (h : decoderOf c p = .ok d) : commandOf d = c := by
  cases c with
  | stop => cases h; rfl
  | ping => cases h; rfl
  | pong => cases h; rfl
  | setDuty =>
    simp only [decoderOf, decSetDuty] at h
    split at h
    · split at h <;> cases h
      rfl
    · cases h
  | notifySwitchState =>
    simp only [decoderOf, decNotifySwitchState] at h
    split at h
    · split at h <;> cases h
      rfl
    · cases h

/-- A decoder's only failure beside the length is the enumeration byte, where the command has one (R142, R79). -/
theorem decoderOf_error {c : Command} {p : Payload} {k : FailureKind} (h : decoderOf c p = .error k) :
    k = .malformedPayloadLength ∨ k = .invalidEnumValue ∧ hasEnumByte c = true := by
  cases c with
  | stop => cases h
  | ping => cases h
  | pong => cases h
  | setDuty =>
    simp only [decoderOf, decSetDuty] at h
    split at h
    · split at h
      · cases h
      · next hd => cases h; exact .inr ⟨dirDecode_error hd, rfl⟩
    · cases h; exact .inl rfl
  | notifySwitchState =>
    simp only [decoderOf, decNotifySwitchState] at h
    split at h
    · split at h
      · cases h
      · next hd => cases h; exact .inr ⟨stateDecode_error hd, rfl⟩
    · cases h; exact .inl rfl

theorem decodePayload_ok {c : Command} {p : Payload} {d : Data} (h : decodePayload c p = .ok d) : commandOf d = c :=
  decoderOf_ok (checkedDecode_ok h).2

theorem decodePayload_error {c : Command} {p : Payload} {k : FailureKind} (h : decodePayload c p = .error k) :
    k = .malformedPayloadLength ∨ k = .invalidEnumValue ∧ hasEnumByte c = true := by
  by_cases hl : p.length = payloadLength c
  · exact decoderOf_error (decodePayload_of_length hl ▸ h)
  · rw [decodePayload_of_length_ne hl] at h
    cases h; exact .inl rfl

/-- A payload the block builds has 0, 2 or 4 bytes (R38). -/
theorem encodePayload_length_cases (d : Data) :
    (encodePayload d).length = 0 ∨ (encodePayload d).length = 2 ∨ (encodePayload d).length = 4 := by
  rw [encodePayload_length]
  cases commandOf d <;> decide

/-- Shifting and or-ing the fields is putting them side by side (R70, R130). -/
theorem packFields_eq_append (code : Code) (snd rcv : Byte) : packFields code snd rcv = code ++ snd ++ rcv := by
  apply BitVec.eq_of_getLsbD_eq
  intro i hi
  simp only [packFields, cmdShift, senderShift, receiverShift, BitVec.getLsbD_append, BitVec.getLsbD_or,
    BitVec.getLsbD_shiftLeft, BitVec.getLsbD_setWidth, BitVec.truncate_eq_setWidth, hi]
  by_cases h1 : i < 8
  · simp [h1, show i < 16 by omega, show i < 29 by omega]
  · have hrcv : rcv.getLsbD i = false := BitVec.getLsbD_of_ge _ _ (by omega)
    by_cases h2 : i < 16
    · simp [h1, h2, hrcv, show i - 8 < 8 by omega, show i - 8 < 29 by omega]
    · have hsnd : snd.getLsbD (i - 8) = false := BitVec.getLsbD_of_ge _ _ (by omega)
      simp [h1, h2, hrcv, hsnd, show ¬ i - 8 < 8 by omega, show i - 16 < 29 by omega, Nat.sub_sub]

theorem packIdent_eq_append (t : CodeTable) (c : Command) (snd rcv : NodeIdentity) :
    packIdent t c snd rcv = codeOf t c ++ snd.raw ++ rcv.raw :=
  packFields_eq_append _ _ _

/-! ### What an instruction answers -/

/-- The answer to a received frame whose command is resolved (log 6). -/
def receivedReply (c : Command) (snd rcv : NodeIdentity) (p : Payload) : Response :=
  responseOf (resultOf (fun d => .parsed snd rcv d) (decodePayload c p))

/-- The one response `exec` adds for an instruction, or `none` where the frame constructor refuses
(`exec_eq_outcomeOf`). -/
def reply (cfg : Config) : Instr → Option Response
  | .stop snd rcv p => some (receivedReply .stop snd rcv p)
  | .ping snd rcv p => some (receivedReply .ping snd rcv p)
  | .pong snd rcv p => some (receivedReply .pong snd rcv p)
  | .setDuty snd rcv p => some (receivedReply .setDuty snd rcv p)
  | .notifySwitchState snd rcv p => some (receivedReply .notifySwitchState snd rcv p)
  | .nidNew raw => some (.ok (.node ⟨raw⟩))
  | .nidBroadcast => some (.ok (.node ⟨broadcastRaw⟩))
  | .nidIsBroadcast n => some (.ok (.bit (if n.raw = broadcastRaw then 1 else 0)))
  | .cmdCode c => some (.ok (.code (codeOf cfg.code c)))
  | .cmdLookup v => some (responseOf (resultOf .command (lookupCommand cfg.code v)))
  | .cmdRange v => some (.ok (.range (rangeOf v)))
  | .idPack c snd rcv => some (.ok (.ident (packIdent cfg.code c snd rcv)))
  | .idUnpack k v =>
    some (responseOf (resultOf (fun x => .unpacked x.1 x.2.1 x.2.2) (unpackIdent cfg.code k v)))
  | .plEncode d => some (.ok (.payload (encodePayload d)))
  | .plDecode c p => some (responseOf (resultOf .data (decodePayload c p)))
  | .frBuild snd rcv d => (buildFrame cfg snd rcv d).map (fun f => .ok (.frame f))
  | .frParse f => some (responseOf (resultOf (fun x => .parsed x.1 x.2.1 x.2.2) (parseFrame cfg.code f)))

/-- The outcome a reply makes: one response given, or `BuildFatal` (R195). -/
def outcomeOf (s : State) : Option Response → Host.Outcome State Fault Refusal
  | some r => .next (s.respond r)
  | none => .fault .buildFatal

/-- All that `exec` does: it gives the instruction's reply, which only the parameters and the operands decide. -/
theorem exec_eq_outcomeOf (i : Instr) (s : State) : exec i s = outcomeOf s (reply s.cfg i) := by
  cases i with
  | nidNew | nidBroadcast | nidIsBroadcast | cmdCode | cmdRange | idPack | plEncode => rfl
  | stop | ping | pong | setDuty | notifySwitchState =>
    exact congrArg Host.Outcome.next (receiveCommand_eq_respond _ _ _ _ _ s)
  | cmdLookup | idUnpack | plDecode | frParse => exact congrArg Host.Outcome.next (State.answer_eq_respond _ s)
  | frBuild snd rcv d =>
    simp only [exec, execFrBuild, reply]
    cases buildFrame s.cfg snd rcv d <;> rfl

theorem exec_of_reply {s : State} {i : Instr} {r : Response} (h : reply s.cfg i = some r) :
    exec i s = .next (s.respond r) := by
  rw [exec_eq_outcomeOf, h]; rfl

theorem exec_of_reply_none {s : State} {i : Instr} (h : reply s.cfg i = none) : exec i s = .fault .buildFatal := by
  rw [exec_eq_outcomeOf, h]; rfl

theorem exec_next {s t : State} {i : Instr} (h : exec i s = .next t) :
    ∃ r, reply s.cfg i = some r ∧ t = s.respond r := by
  cases hr : reply s.cfg i with
  | none => rw [exec_of_reply_none hr] at h; cases h
  | some r => rw [exec_of_reply hr] at h; cases h; exact ⟨r, rfl, rfl⟩

/-- No instruction is refused. -/
theorem exec_ne_refused (i : Instr) (s : State) (e : Refusal) : exec i s ≠ .refused e := by
  rw [exec_eq_outcomeOf]
  cases reply s.cfg i <;> nofun

/-- Only FR_BUILD can be without a reply, and only where the constructor refuses (R195). -/
theorem reply_eq_none {cfg : Config} {i : Instr} (h : reply cfg i = none) :
    ∃ snd rcv d, i = .frBuild snd rcv d ∧ buildFrame cfg snd rcv d = none := by
  cases i with
  | frBuild snd rcv d => exact ⟨snd, rcv, d, rfl, by simpa [reply] using h⟩
  | _ => cases h

/-! ### A reply is within its row -/

/-- A row admits the response of an operation that may fail when it admits each result and each failure of it. -/
theorem admits_responseOf {α : Type} {i : Instr} {f : α → Result} {x : Except FailureKind α}
    (hok : ∀ a, x = .ok a → i.admits (.ok (f a)) = true) (herr : ∀ k, x = .error k → i.admits (.err k) = true) :
    i.admits (responseOf (resultOf f x)) = true := by
  cases x with
  | ok a => exact hok a rfl
  | error k => exact herr k rfl

theorem admits_receivedReply (c : Command) (snd rcv : NodeIdentity) (p : Payload) :
    (commandInstr c snd rcv p).admits (receivedReply c snd rcv p) = true := by
  refine admits_responseOf (fun d hd => ?_) (fun k hk => ?_)
  · obtain rfl := decodePayload_ok hd
    cases d <;> rfl
  · obtain rfl | ⟨rfl, he⟩ := decodePayload_error hk
    · cases c <;> rfl
    · cases c with
      | setDuty | notifySwitchState => rfl
      | stop | ping | pong => cases he

theorem reply_admits {cfg : Config} {i : Instr} {r : Response} (h : reply cfg i = some r) : i.admits r = true := by
  cases i with
  | stop snd rcv p => cases h; exact admits_receivedReply .stop snd rcv p
  | ping snd rcv p => cases h; exact admits_receivedReply .ping snd rcv p
  | pong snd rcv p => cases h; exact admits_receivedReply .pong snd rcv p
  | setDuty snd rcv p => cases h; exact admits_receivedReply .setDuty snd rcv p
  | notifySwitchState snd rcv p => cases h; exact admits_receivedReply .notifySwitchState snd rcv p
  | nidNew | nidBroadcast | nidIsBroadcast | cmdCode | cmdRange | idPack | plEncode => cases h; rfl
  | cmdLookup v =>
    cases h
    exact admits_responseOf (fun _ _ => rfl) fun k hk => by rw [lookupCommand_error hk]; rfl
  | idUnpack kd v =>
    cases h
    exact admits_responseOf (fun _ _ => rfl) fun k hk => by obtain rfl | rfl := unpackIdent_error hk <;> rfl
  | plDecode c p =>
    cases h
    exact admits_responseOf (fun _ _ => rfl) fun k hk => by obtain rfl | ⟨rfl, -⟩ := decodePayload_error hk <;> rfl
  | frBuild snd rcv d =>
    obtain ⟨f, -, rfl⟩ := Option.map_eq_some_iff.mp h
    rfl
  | frParse f =>
    cases h
    exact admits_responseOf (fun _ _ => rfl) fun _ _ => rfl

/-! ### A reply is legal -/

/-- The response of an operation that may fail is legal when its results are: every failure is (R197). -/
theorem legal_responseOf {α : Type} {t : CodeTable} {f : α → Result} (hf : ∀ a, (f a).Legal t)
    (x : Except FailureKind α) : (responseOf (resultOf f x)).Legal t := by
  cases x with
  | ok a => exact hf a
  | error k => trivial

/-- A faithful constructor builds frames of the protocol only (R74, R82, R171). -/
theorem buildFrame_isImage {cfg : Config} (hcfg : cfg.ctor.Faithful) {snd rcv : NodeIdentity} {d : Data} {f : Frame}
    (h : buildFrame cfg snd rcv d = some f) : f.IsImage cfg.code := by
  obtain ⟨kind, idval, payload⟩ := f
  obtain ⟨rfl, rfl, rfl⟩ := hcfg _ _ _ h
  exact ⟨snd, rcv, d, rfl⟩

theorem reply_legal {cfg : Config} (hcfg : cfg.ctor.Faithful) {i : Instr} {r : Response} (h : reply cfg i = some r) :
    r.Legal cfg.code := by
  cases i with
  | nidNew | nidBroadcast | nidIsBroadcast | cmdRange => cases h; trivial
  | stop | ping | pong | setDuty | notifySwitchState | cmdLookup | idUnpack | plDecode | frParse =>
    cases h; exact legal_responseOf (fun _ => by trivial) _
  | cmdCode c => cases h; exact ⟨c, rfl⟩
  | idPack c snd rcv => cases h; exact ⟨c, (codeField_packFields _ _ _).symm⟩
  | plEncode d => cases h; exact encodePayload_length_cases d
  | frBuild snd rcv d =>
    obtain ⟨f, hf, rfl⟩ := Option.map_eq_some_iff.mp h
    exact buildFrame_isImage hcfg hf

/-! ### What a step can do -/

theorem step_of_no_request {s : State} (h : s.requests = []) : step s = .next s := by
  simp only [step, h, idle]

theorem step_of_reject {s : State} {q : Request} {rest : List Request} {e : Reject} (hq : s.requests = q :: rest)
    (hd : decode s.cfg.code q = .error e) : step s = onReject e (s.takeRequest rest) := by
  simp only [step, hq, hd]

/-- The block answers a request with a response: the reply of the instruction it stands for, or the failure of a frame
illegal for this protocol (R81, R82). -/
def Answers (cfg : Config) (q : Request) (r : Response) : Prop :=
  (∃ i, decode cfg.code q = .ok i ∧ reply cfg i = some r) ∨
    ∃ k, decode cfg.code q = .error (.failure k) ∧ r = .err k

/-- A step that answers a next state idles, or answers the oldest request and changes nothing else. -/
theorem step_next {s t : State} (h : step s = .next t) :
    (s.requests = [] ∧ t = s) ∨
    ∃ q rest r, s.requests = q :: rest ∧ Answers s.cfg q r ∧ t = (s.takeRequest rest).respond r := by
  cases hq : s.requests with
  | nil =>
    rw [step_of_no_request hq] at h
    cases h; exact .inl ⟨rfl, rfl⟩
  | cons q rest =>
    refine .inr ⟨q, rest, ?_⟩
    cases hd : decode s.cfg.code q with
    | ok i =>
      rw [step_of_decode hq hd] at h
      obtain ⟨r, hr, ht⟩ := exec_next h
      exact ⟨r, rfl, .inl ⟨i, hd, hr⟩, ht⟩
    | error e =>
      rw [step_of_reject hq hd] at h
      obtain ⟨k, rfl, ht⟩ := onReject_next h
      exact ⟨.err k, rfl, .inr ⟨k, hd, rfl⟩, ht⟩

theorem answers_legal {cfg : Config} (hcfg : cfg.ctor.Faithful) {q : Request} {r : Response} (h : Answers cfg q r) :
    r.Legal cfg.code := by
  obtain ⟨i, -, hr⟩ | ⟨k, -, rfl⟩ := h
  · exact reply_legal hcfg hr
  · trivial

theorem inv_takeRequest_respond {s : State} (hs : s.Inv) (rest : List Request) {r : Response}
    (hr : r.Legal s.cfg.code) : ((s.takeRequest rest).respond r).Inv := by
  obtain ⟨hcfg, hold⟩ := hs
  refine ⟨hcfg, fun r' hr' => ?_⟩
  obtain hmem | hmem := List.mem_append.mp hr'
  · exact hold r' hmem
  · rw [List.mem_singleton.mp hmem]; exact hr

/-! ### Which requests are refused for a Command operand -/

theorem onReject_eq_refused_unregistered_iff {e : Reject} {s : State} :
    onReject e s = .refused .unregisteredCommandOperand ↔ e = .unregisteredCommandOperand := by
  cases e <;> simp [onReject]

/-- A step refuses so exactly when the decoder rejects so: no instruction is refused. -/
theorem step_eq_refused_unregistered_iff {s : State} {q : Request} {rest : List Request} (hq : s.requests = q :: rest) :
    step s = .refused .unregisteredCommandOperand ↔
      decode s.cfg.code q = .error .unregisteredCommandOperand := by
  cases hd : decode s.cfg.code q with
  | ok i => simp [step_of_decode hq hd, exec_ne_refused]
  | error e => rw [step_of_reject hq hd, onReject_eq_refused_unregistered_iff, Except.error.injEq]

theorem withCommand_eq_unregistered_iff {t : CodeTable} {v : Code} {f : Command → Instr} :
    withCommand t v f = .error .unregisteredCommandOperand ↔ ∀ c, codeOf t c ≠ v := by
  rw [← readCommand_eq_none, withCommand]
  cases readCommand t v <;> simp

theorem withData_eq_unregistered_iff {t : CodeTable} {w : DataWires} {f : Data → Instr} :
    withData t w f = .error .unregisteredCommandOperand ↔ ∀ c, codeOf t c ≠ w.cmd := by
  rw [← readCommand_eq_none, ← readData_eq_none, withData]
  cases readData t w <;> simp

/-- The decoder rejects a Command operand exactly where R41 gives the operation one. -/
theorem decodeOpsel_eq_unregistered_iff {t : CodeTable} {op : Byte} {w : OperandWires} :
    decodeOpsel t op w = .error .unregisteredCommandOperand ↔
      ((op = 0x3 ∨ op = 0x6 ∨ op = 0x9) ∧ ∀ c, codeOf t c ≠ w.c) ∨
      ((op = 0x8 ∨ op = 0xA) ∧ ∀ c, codeOf t c ≠ w.d.cmd) := by
  simp only [← BitVec.toNat_inj, decodeOpsel]
  generalize op.toNat = n
  split
  case h_4 | h_7 | h_10 => simp [withCommand_eq_unregistered_iff]
  case h_9 | h_11 => simp [withData_eq_unregistered_iff]
  case h_13 => split <;> simp_all
  all_goals simp

/-! ### The response read back from the wires -/

/-- The range tag two bits carry (R44). -/
def readRange (b : BitVec 2) : RangeTag :=
  if b = 0 then .system else if b = 1 then .control else if b = 2 then .telemetry else .config

theorem readRange_rangeWire (g : RangeTag) : readRange (rangeWire g) = g := by cases g <;> rfl

theorem readStatus_statusCode (st : Status) : readStatus (statusCode st) = some st := by
  cases st with
  | err k => cases k <;> rfl
  | _ => rfl

theorem statusCode_injective : Function.Injective statusCode := fun a b h =>
  Option.some.inj (by rw [← readStatus_statusCode a, h, readStatus_statusCode])

/-- The result a host reads from the wires of its row of R42, knowing which instruction it asked for
(`readResult_of_carriesResult`). -/
def readResult (t : CodeTable) (w : ResponseWires) : Instr → Option Result
  | .nidNew _ | .nidBroadcast => some (.node ⟨w.node⟩)
  | .nidIsBroadcast _ => some (.bit w.bit)
  | .cmdCode _ => some (.code w.code)
  | .cmdLookup _ => (readCommand t w.command).map .command
  | .cmdRange _ => some (.range (readRange w.range))
  | .idPack _ _ _ => some (.ident w.ident)
  | .idUnpack _ _ => (readCommand t w.command).map (fun c => .unpacked c ⟨w.sender⟩ ⟨w.receiver⟩)
  | .plEncode _ => some (.payload (readPayload w.payload))
  | .plDecode _ _ => (readData t w.data).map .data
  | .frBuild _ _ _ => some (.frame (readFrame w.frame))
  | .frParse _ | .stop _ _ _ | .ping _ _ _ | .pong _ _ _ | .setDuty _ _ _ | .notifySwitchState _ _ _ =>
    (readData t w.data).map (fun d => .parsed ⟨w.sender⟩ ⟨w.receiver⟩ d)

/-- The response a host reads from the wires: the status tells which failure, or that there is a result (R43). -/
def readResponse (t : CodeTable) (w : ResponseWires) (i : Instr) : Option Response :=
  match readStatus w.status with
  | some .ok => (readResult t w i).map .ok
  | some (.err k) => some (.err k)
  | some .buildFatal => none
  | none => none

theorem carries_iff {t : CodeTable} {w : ResponseWires} {r : Response} :
    carries t w r = true ↔ w.status = statusCode (statusOf r) ∧ w.valid = validBit (statusOf r) ∧
      ∀ v, r = .ok v → carriesResult t w v = true := by
  cases r <;> simp [carries, and_assoc]

/-- On each row of the response table, the wires that carry a result are read as that result. -/
theorem readResult_of_carriesResult {t : CodeTable} {w : ResponseWires} {i : Instr} {v : Result}
    (hi : i.admits (.ok v) = true) (hw : carriesResult t w v = true) : readResult t w i = some v := by
  cases i with
  | nidNew | nidBroadcast =>
    cases v with
    | node n => simp_all [carriesResult, readResult]
    | _ => cases hi
  | nidIsBroadcast =>
    cases v with
    | bit b => simp_all [carriesResult, readResult]
    | _ => cases hi
  | cmdCode =>
    cases v with
    | code x => simp_all [carriesResult, readResult]
    | _ => cases hi
  | cmdLookup =>
    cases v with
    | command c => simp_all [carriesResult, readResult]
    | _ => cases hi
  | cmdRange =>
    cases v with
    | range g => simp_all [carriesResult, readResult, readRange_rangeWire]
    | _ => cases hi
  | idPack =>
    cases v with
    | ident x => simp_all [carriesResult, readResult]
    | _ => cases hi
  | idUnpack =>
    cases v with
    | unpacked c snd rcv => simp_all [carriesResult, readResult]
    | _ => cases hi
  | plEncode =>
    cases v with
    | payload p => simp_all [carriesResult, readResult]
    | _ => cases hi
  | plDecode =>
    cases v with
    | data d => simp_all [carriesResult, readResult]
    | _ => cases hi
  | frBuild =>
    cases v with
    | frame f => simp_all [carriesResult, readResult]
    | _ => cases hi
  | frParse | stop | ping | pong | setDuty | notifySwitchState =>
    cases v with
    | parsed snd rcv d => simp_all [carriesResult, readResult]
    | _ => cases hi

/-- Wires that carry a response of an instruction are read as that response. -/
theorem readResponse_of_carries {t : CodeTable} {w : ResponseWires} {i : Instr} {r : Response}
    (hi : i.admits r = true) (hw : carries t w r = true) : readResponse t w i = some r := by
  obtain ⟨hstatus, -, hresult⟩ := carries_iff.mp hw
  simp only [readResponse, hstatus, readStatus_statusCode]
  cases r with
  | ok v => simp [statusOf, readResult_of_carriesResult hi (hresult v rfl)]
  | err k => simp [statusOf]

theorem validBit_statusOf_eq_one_iff {r : Response} : validBit (statusOf r) = 1 ↔ ∃ v, r = .ok v := by
  cases r <;> simp [statusOf, validBit]

theorem statusOf_eq_err_iff {r : Response} {k : FailureKind} : statusOf r = .err k ↔ r = .err k := by
  cases r <;> simp [statusOf]

/-- A frame of the protocol fits the eight lanes (R38, R44). -/
theorem isImage_payload_length {t : CodeTable} {f : Frame} (hf : f.IsImage t) : f.payload.length ≤ 8 := by
  obtain ⟨snd, rcv, d, rfl⟩ := hf
  have := encodePayload_length_cases d
  dsimp only
  omega

/-- The status and valid wires are no part of a result. -/
theorem carriesResult_congr_status (t : CodeTable) (w : ResponseWires) (st : BitVec 3) (b : BitVec 1) (v : Result) :
    carriesResult t { w with status := st, valid := b } v = carriesResult t w v := by
  cases v <;> rfl

theorem carriesResult_driveResult {t : CodeTable} (ht : t.Admissible) {v : Result} (hv : v.Legal t) :
    carriesResult t (driveResult t v) v = true := by
  cases v with
  | node | bit | code | range | ident => simp [carriesResult, driveResult]
  | command | unpacked => simp [carriesResult, driveResult, readCommand_codeOf ht]
  | data | parsed => simp [carriesResult, driveResult, readData_dataWires ht]
  | payload p =>
    have hp : p.length ≤ 8 := by rcases hv with h | h | h <;> omega
    simp [carriesResult, driveResult, readPayload_payloadWires hp]
  | frame f => simp [carriesResult, driveResult, readFrame_frameWires (isImage_payload_length hv)]

theorem carries_drive {t : CodeTable} (ht : t.Admissible) {r : Response} (hr : r.Legal t) :
    carries t (drive t r) r = true := by
  cases r with
  | ok v =>
    refine carries_iff.mpr ⟨rfl, rfl, fun v' hv' => ?_⟩
    cases hv'
    exact (carriesResult_congr_status _ _ _ _ _).trans (carriesResult_driveResult ht hr)
  | err k => exact carries_iff.mpr ⟨rfl, rfl, nofun⟩

end Sys2Proof.Machine

namespace Sys2Proof.Proofs

open Sys2Proof.Machine

/-- Settles O48: a step adds at most one response, and a response the block answers with is legal. -/
theorem stepKeepsInvariant : Obligations.StepKeepsInvariant := by
  intro s t hs h
  obtain ⟨-, rfl⟩ | ⟨q, rest, r, -, hr, rfl⟩ := step_next h
  · exact hs
  · have hctor : s.cfg.ctor.Faithful := hs.1.2
    exact inv_takeRequest_respond hs rest (answers_legal hctor hr)

/-- Settles O31: an instruction with a reply gives it, within its row; one without is an FR_BUILD that was refused. -/
theorem everyInstructionAnswersWithinItsRow : Obligations.EveryInstructionAnswersWithinItsRow := by
  intro i s
  cases hr : reply s.cfg i with
  | some r => exact .inl ⟨r, exec_of_reply hr, reply_admits hr⟩
  | none =>
    obtain ⟨snd, rcv, d, hi, hf⟩ := reply_eq_none hr
    exact .inr ⟨snd, rcv, d, hi, exec_of_reply_none hr, packIdent_eq_append s.cfg.code _ snd rcv ▸ hf⟩

/-- Settles O43, by what a step can do. -/
theorem stepTakesOneRequestAndGivesOneResponse : Obligations.StepTakesOneRequestAndGivesOneResponse := by
  intro s t h
  obtain hidle | ⟨q, rest, r, hq, -, ht⟩ := step_next h
  · exact .inl hidle
  · exact .inr ⟨q, rest, r, hq, ht⟩

/-- Settles O53: status and valid are functions of the response, and a host that knows the instruction reads the whole
response back. -/
theorem responseWiresCarryTheResponse : Obligations.ResponseWiresCarryTheResponse := by
  intro t r ht hr
  refine ⟨carries_drive ht hr, fun w hw => ?_⟩
  obtain ⟨hstatus, hvalid, -⟩ := carries_iff.mp hw
  refine ⟨?_, fun k => ?_, fun i r' hi hi' hw' => ?_⟩
  · rw [hvalid, validBit_statusOf_eq_one_iff]
  · rw [hstatus, statusCode_injective.eq_iff, statusOf_eq_err_iff]
  · exact Option.some.inj ((readResponse_of_carries hi' hw').symm.trans (readResponse_of_carries hi hw))

/-- Settles O56: only the decoder refuses so, and only for the operations that have a Command or Data operand. -/
theorem unregisteredCommandOperandIsRefused : Obligations.UnregisteredCommandOperandIsRefused :=
  fun _ _ _ _ hq => (step_eq_refused_unregistered_iff hq).trans decodeOpsel_eq_unregistered_iff

/-- Settles O42, by the rule for a step without a request (log 5). -/
theorem stepIdlesWithoutRequest : Obligations.StepIdlesWithoutRequest :=
  fun _ h => step_of_no_request h

end Sys2Proof.Proofs

/-! PROOF. What a run over the presented requests answers: each request by itself, from the parameters alone (R62). -/

namespace Sys2Proof.Machine

/-! ### When an instruction gives a response, and when it faults -/

theorem State.respond_inj {s : State} {r r' : Response} : s.respond r = s.respond r' ↔ r = r' := by
  simp [State.respond]

theorem exec_eq_next_respond_iff {s : State} {i : Instr} {r : Response} :
    exec i s = .next (s.respond r) ↔ reply s.cfg i = some r := by
  refine ⟨fun h => ?_, exec_of_reply⟩
  obtain ⟨r', hr', heq⟩ := exec_next h
  rw [hr', State.respond_inj.mp heq]

theorem exec_eq_buildFatal_iff {s : State} {i : Instr} : exec i s = .fault .buildFatal ↔ reply s.cfg i = none := by
  refine ⟨fun h => ?_, exec_of_reply_none⟩
  cases hr : reply s.cfg i with
  | none => rfl
  | some r => rw [exec_of_reply hr] at h; cases h

/-! ### When a step answers its request -/

/-- The converse of `step_next`, for a presented request. -/
theorem step_of_answers {s : State} {q : Request} {rest : List Request} {r : Response} (hq : s.requests = q :: rest)
    (h : Answers s.cfg q r) : step s = .next ((s.takeRequest rest).respond r) := by
  obtain ⟨i, hd, hr⟩ | ⟨k, hd, rfl⟩ := h
  · rw [step_of_decode hq hd]; exact exec_of_reply hr
  · rw [step_of_reject hq hd]; rfl

theorem step_eq_next_iff {s t : State} {q : Request} {rest : List Request} (hq : s.requests = q :: rest) :
    step s = .next t ↔ ∃ r, Answers s.cfg q r ∧ t = (s.takeRequest rest).respond r := by
  constructor
  · intro h
    obtain ⟨hnil, -⟩ | ⟨q', rest', r, hq', hr, ht⟩ := step_next h
    · rw [hnil] at hq; cases hq
    · rw [hq] at hq'; cases hq'; exact ⟨r, hr, ht⟩
  · rintro ⟨r, hr, rfl⟩
    exact step_of_answers hq hr

/-- A request presented alone completes with one response exactly when the block answers it so. -/
theorem step_alone_iff {s : State} {q : Request} {r : Response} :
    step { s with requests := [q], responses := [] } = .next { s with requests := [], responses := [r] } ↔
      Answers s.cfg q r := by
  rw [step_eq_next_iff rfl]
  constructor
  · rintro ⟨r', hr', heq⟩
    have hresp : [r] = [r'] := congrArg State.responses heq
    cases hresp; exact hr'
  · exact fun h => ⟨r, h, rfl⟩

/-! ### What a run answers -/

theorem run_succ_eq_next_iff {M : Host.Core} {k : Nat} {s t : M.State} :
    M.run (k + 1) s = .next t ↔ ∃ s', M.step s = .next s' ∧ M.run k s' = .next t := by
  rw [Host.Core.run]
  cases M.step s <;> simp

theorem core_run_zero_eq_next_iff {s t : State} : Host.Core.run Sys2Proof.core 0 s = .next t ↔ t = s :=
  ⟨fun h => (Host.Outcome.next.inj h).symm, fun h => h ▸ rfl⟩

theorem core_run_succ_eq_next_iff {k : Nat} {s t : State} :
    Host.Core.run Sys2Proof.core (k + 1) s = .next t ↔
      ∃ s', step s = .next s' ∧ Host.Core.run Sys2Proof.core k s' = .next t :=
  run_succ_eq_next_iff

/-- A run over all presented requests gives, in order, a response the block answers each of them with. The responses
given on the way are not looked at: only the parameters decide `Answers`. -/
theorem run_requests_iff {qs : List Request} {s t : State} (hs : s.requests = qs) :
    Host.Core.run Sys2Proof.core qs.length s = .next t ↔
      ∃ rs, t = { s with requests := [], responses := s.responses ++ rs } ∧ List.Forall₂ (Answers s.cfg) qs rs := by
  induction qs generalizing s with
  | nil =>
    have hself : s = { s with requests := [], responses := s.responses ++ [] } := by rw [← hs, List.append_nil]
    refine core_run_zero_eq_next_iff.trans ⟨fun h => ⟨[], h.trans hself, .nil⟩, ?_⟩
    rintro ⟨_, rfl, _ | _⟩
    exact hself.symm
  | cons q rest ih =>
    have hrest (r : Response) := ih (s := (s.takeRequest rest).respond r) rfl
    refine core_run_succ_eq_next_iff.trans ⟨?_, ?_⟩
    · rintro ⟨s', hstep, hrun⟩
      obtain ⟨r, hr, rfl⟩ := (step_eq_next_iff hs).mp hstep
      obtain ⟨rs, rfl, hrs⟩ := (hrest r).mp hrun
      exact ⟨r :: rs, by simp, .cons hr hrs⟩
    · rintro ⟨_, rfl, hall⟩
      obtain _ | ⟨hr, hrs⟩ := hall
      exact ⟨_, step_of_answers hs hr, (hrest _).mpr ⟨_, by simp, hrs⟩⟩

/-! ### Another order -/

/-- Values related to the members of a list can be permuted with them, each staying with its member. -/
theorem exists_forall₂_zip_perm {α β : Type} {R : α → β → Prop} {xs xs' : List α} {ys : List β} (hp : xs.Perm xs')
    (h : List.Forall₂ R xs ys) : ∃ ys', List.Forall₂ R xs' ys' ∧ (xs.zip ys).Perm (xs'.zip ys') := by
  induction hp generalizing ys with
  | nil => exact ⟨ys, h, .refl _⟩
  | cons x _ ih =>
    obtain _ | ⟨hx, hxs⟩ := h
    obtain ⟨ys', hys', hz⟩ := ih hxs
    exact ⟨_ :: ys', .cons hx hys', hz.cons _⟩
  | swap x y l =>
    obtain _ | ⟨hy, _ | ⟨hx, hl⟩⟩ := h
    exact ⟨_, .cons hx (.cons hy hl), .swap _ _ _⟩
  | trans _ _ ih₁ ih₂ =>
    obtain ⟨ys₁, h₁, hz₁⟩ := ih₁ h
    obtain ⟨ys₂, h₂, hz₂⟩ := ih₂ h₁
    exact ⟨ys₂, h₂, hz₁.trans hz₂⟩

end Sys2Proof.Machine

namespace Sys2Proof.Proofs

open Sys2Proof.Machine

/-- Settles O32: the reply decides the outcome, and it is a function of the parameters and the instruction. -/
theorem answersDependOnOperandsAndParametersAlone : Obligations.AnswersDependOnOperandsAndParametersAlone := by
  intro i s s' hcfg
  constructor
  · intro r h
    have hr : reply s.cfg i = some r := exec_eq_next_respond_iff.mp h
    exact exec_of_reply (hcfg ▸ hr)
  · intro h
    have hr : reply s.cfg i = none := exec_eq_buildFatal_iff.mp h
    exact exec_of_reply_none (hcfg ▸ hr)

/-- Settles O46: a run and the requests presented alone give the responses of one relation, `Answers`. -/
theorem runAnswersEachRequestAsAlone : Obligations.RunAnswersEachRequestAsAlone := by
  intro s t
  simp only [step_alone_iff]
  exact run_requests_iff rfl

/-- Settles O47: the responses of the first run, permuted with their requests, are those of the second. -/
theorem orderOfRequestsDoesNotMatter : Obligations.OrderOfRequestsDoesNotMatter := by
  intro s t qs hp hrun
  obtain ⟨rs, ht, hrs⟩ := (run_requests_iff rfl).mp hrun
  obtain ⟨rs', hrs', hz⟩ := exists_forall₂_zip_perm hp hrs
  have hrun' := (run_requests_iff (s := { s with requests := qs }) rfl).mpr ⟨rs', rfl, hrs'⟩
  exact ⟨rs, rs', ht, hrun', hrs.length_eq.symm, hrs'.length_eq.symm, hz⟩

end Sys2Proof.Proofs

/-! PROOF. The decoder on the wires of each format (R70, R75), its inverse the encoder, and the mask and match words of
the default table (R89). -/

namespace Sys2Proof.Machine

/-! ### Format XID29 (R70) -/

/-- All that the decoder reads from an extended frame's word: the code field names the command, the other two fields are
the addresses. -/
theorem decode_extended_eq_ok_iff {t : CodeTable} {word : BitVec 32} (hword : word.toNat < 2 ^ 29)
    {w : PayloadWires} {i : Instr} :
    decode t (.xid29 1 word w) = .ok i ↔
      ∃ c, lookupCommand t (codeField (word.setWidth 29)) = .ok c ∧
        commandInstr c ⟨senderField (word.setWidth 29)⟩ ⟨receiverField (word.setWidth 29)⟩ (readPayload w) = i := by
  have hkind : readKind 1 = .extended := rfl
  have hfits : ¬ 2 ^ idBits ≤ word.toNat := Nat.not_le.mpr hword
  rw [decode, decodeXid29, if_neg hfits, hkind]
  cases h : lookupCommand t (codeField (word.setWidth 29)) <;> simp [unpackIdent, h]

/-- A received command row is its command, its addresses and its payload. -/
theorem commandInstr_inj {c c' : Command} {snd snd' rcv rcv' : NodeIdentity} {p p' : Payload} :
    commandInstr c snd rcv p = commandInstr c' snd' rcv' p' ↔ c = c' ∧ snd = snd' ∧ rcv = rcv' ∧ p = p' := by
  cases c <;> cases c' <;> simp [commandInstr]

/-- For an injective table, the code field alone selects the command row. -/
theorem decode_extended_eq_commandInstr_iff {t : CodeTable} (ht : t.Admissible) {word : BitVec 32}
    (hword : word.toNat < 2 ^ 29) {w : PayloadWires} {c : Command} :
    decode t (.xid29 1 word w) =
        .ok (commandInstr c ⟨senderField (word.setWidth 29)⟩ ⟨receiverField (word.setWidth 29)⟩ (readPayload w)) ↔
      codeField (word.setWidth 29) = codeOf t c := by
  rw [decode_extended_eq_ok_iff hword]
  constructor
  · rintro ⟨c', hc', heq⟩
    obtain ⟨rfl, -⟩ := commandInstr_inj.mp heq
    exact (lookupCommand_ok hc').symm
  · intro hcode
    exact ⟨c, hcode ▸ lookupCommand_codeOf ht c, rfl⟩

/-- The wires of a received frame decode to its command row (R70, R74, R76). -/
theorem decode_encodeXid29 {t : CodeTable} (ht : t.Admissible) (c : Command) (snd rcv : NodeIdentity) {p : Payload}
    (hp : p.length ≤ 8) : decode t (encodeXid29 t c snd rcv p) = .ok (commandInstr c snd rcv p) := by
  have hcontainer : ((packIdent t c snd rcv).setWidth 32).setWidth 29 = packIdent t c snd rcv := by
    rw [BitVec.setWidth_setWidth_of_le _ (by decide), BitVec.setWidth_eq]
  have hword : ((packIdent t c snd rcv).setWidth 32).toNat < 2 ^ 29 := by
    rw [BitVec.toNat_setWidth_of_le (by decide)]
    exact (packIdent t c snd rcv).isLt
  refine (decode_extended_eq_ok_iff hword).mpr ⟨c, ?_, ?_⟩
  · rw [hcontainer, packIdent, codeField_packFields, lookupCommand_codeOf ht]
  · rw [hcontainer, packIdent, senderField_packFields, receiverField_packFields, readPayload_payloadWires hp]

/-! ### Format OPSEL (R75) -/

theorem withCommand_codeOf {t : CodeTable} (ht : t.Admissible) (c : Command) (f : Command → Instr) :
    withCommand t (codeOf t c) f = .ok (f c) := by
  rw [withCommand, readCommand_codeOf ht]

theorem withData_dataWires {t : CodeTable} (ht : t.Admissible) (d : Data) (f : Data → Instr) :
    withData t (dataWires t d) f = .ok (f d) := by
  rw [withData, readData_dataWires ht]

/-- The selects 0xC to 0xF stand for no operation (R85). -/
theorem decodeOpsel_reserved (t : CodeTable) {op : Byte} (w : OperandWires) (hlo : 0xC ≤ op.toNat)
    (hhi : op.toNat ≤ 0xF) : decodeOpsel t op w = .error .reservedOpSelect := by
  rw [decodeOpsel]
  generalize op.toNat = n at hlo hhi
  interval_cases n <;> rfl

theorem fitsLanes_iff {p : Payload} : Payload.fitsLanes p = true ↔ p.length ≤ 8 := by
  simp [Payload.fitsLanes]

theorem frame_fitsLanes_of_wellFormed {f : Frame} (hf : f.wellFormed = true) : f.payload.length ≤ 8 := by
  rw [Frame.wellFormed, Bool.and_eq_true] at hf
  exact fitsLanes_iff.mp hf.2

/-- Decoding inverts encoding, row by row (R70 to R75, R44). -/
theorem decode_encode {t : CodeTable} (ht : t.Admissible) {i : Instr} (hi : i.wellFormed = true) :
    decode t (encode t i) = .ok i := by
  cases i with
  | stop snd rcv p => exact decode_encodeXid29 ht .stop snd rcv (fitsLanes_iff.mp hi)
  | ping snd rcv p => exact decode_encodeXid29 ht .ping snd rcv (fitsLanes_iff.mp hi)
  | pong snd rcv p => exact decode_encodeXid29 ht .pong snd rcv (fitsLanes_iff.mp hi)
  | setDuty snd rcv p => exact decode_encodeXid29 ht .setDuty snd rcv (fitsLanes_iff.mp hi)
  | notifySwitchState snd rcv p => exact decode_encodeXid29 ht .notifySwitchState snd rcv (fitsLanes_iff.mp hi)
  | nidNew | nidBroadcast | nidIsBroadcast | cmdLookup | cmdRange => rfl
  | cmdCode c => exact withCommand_codeOf ht c _
  | idPack c snd rcv => exact withCommand_codeOf ht c _
  | idUnpack k v => exact congrArg (fun k => Except.ok (Instr.idUnpack k v)) (readKind_kindWire k)
  | plEncode d => exact withData_dataWires ht d _
  | plDecode c p =>
    refine (withCommand_codeOf ht c _).trans ?_
    rw [readPayload_payloadWires (fitsLanes_iff.mp hi)]
  | frBuild snd rcv d => exact withData_dataWires ht d _
  | frParse f =>
    exact congrArg (fun f => Except.ok (Instr.frParse f)) (readFrame_frameWires (frame_fitsLanes_of_wellFormed hi))

/-! ### The mask and the match words (R89) -/

/-- The mask 0x1FFF0000 keeps the code field, in its place. -/
theorem and_mask_eq_codeField_shift (w : BitVec 32) :
    w &&& 0x1FFF0000#32 = (codeField (w.setWidth 29)).setWidth 32 <<< cmdShift := by
  have hmask : 0x1FFF0000#32 = (BitVec.allOnes 13).setWidth 32 <<< cmdShift := by decide
  apply BitVec.eq_of_getLsbD_eq
  intro i hi
  rw [hmask]
  simp only [codeField, cmdShift, BitVec.getLsbD_and, BitVec.getLsbD_shiftLeft, BitVec.getLsbD_setWidth,
    BitVec.getLsbD_allOnes, BitVec.getLsbD_extractLsb', hi]
  by_cases h1 : i < 16
  · simp [h1]
  · by_cases h2 : i - 16 < 13
    · simp [h1, h2, show 16 + (i - 16) = i by omega, show i < 29 by omega, show i - 16 < 32 by omega]
    · simp [h1, h2]

theorem shift_code_inj {v v' : Code} : v.setWidth 32 <<< cmdShift = v'.setWidth 32 <<< cmdShift ↔ v = v' := by
  refine ⟨fun h => ?_, fun h => h ▸ rfl⟩
  have hback (x : Code) : (x.setWidth 32 <<< cmdShift).extractLsb' cmdShift 13 = x := by
    apply BitVec.eq_of_getLsbD_eq
    intro i hi
    simp [cmdShift, hi, show 16 + i < 32 by omega]
  rw [← hback v, h, hback]

/-- A word matches a command's code under the mask exactly when its code field is that code. -/
theorem and_mask_eq_shift_iff {w : BitVec 32} {v : Code} :
    w &&& 0x1FFF0000#32 = v.setWidth 32 <<< cmdShift ↔ codeField (w.setWidth 29) = v := by
  rw [and_mask_eq_codeField_shift, shift_code_inj]

theorem senderField_setWidth (w : BitVec 32) : senderField (w.setWidth 29) = w.extractLsb 15 8 := by
  apply BitVec.eq_of_getLsbD_eq
  intro i hi
  simp [senderField, senderShift, BitVec.extractLsb, hi, show 8 + i < 29 by omega]

theorem receiverField_setWidth (w : BitVec 32) : receiverField (w.setWidth 29) = w.extractLsb 7 0 := by
  apply BitVec.eq_of_getLsbD_eq
  intro i hi
  simp [receiverField, receiverShift, BitVec.extractLsb, hi, show i < 29 by omega]

/-- With the default table a command row is selected by its code, shifted into place, under the mask (R89). -/
theorem and_mask_eq_iff_decode_eq {w : BitVec 32} (hw : w.toNat < 2 ^ 29) (pay : PayloadWires) (c : Command) :
    w &&& 0x1FFF0000#32 = (codeOf defaultCode c).setWidth 32 <<< cmdShift ↔
      decode defaultCode (.xid29 1 w pay) =
        .ok (commandInstr c ⟨w.extractLsb 15 8⟩ ⟨w.extractLsb 7 0⟩ (readPayload pay)) := by
  have hadmissible : defaultCode.Admissible := (distinct_iff_admissible _).mp (by decide)
  rw [and_mask_eq_shift_iff, ← decode_extended_eq_commandInstr_iff hadmissible hw (w := pay), senderField_setWidth,
    receiverField_setWidth]

/-! ### The host's table words (log 10) -/

theorem decodeTableWord_eq_some_iff {nbits w : Nat} {i : Instr} :
    decodeTableWord nbits w = some i ↔ decode defaultCode (requestOfWord defaultCode nbits w) = .ok i := by
  rw [decodeTableWord]
  cases decode defaultCode (requestOfWord defaultCode nbits w) <;> simp [Except.toOption]

/-! ### The terms of R88 -/

theorem nodeOfTerm_broadcast : nodeOfTerm .broadcast = nodeOfTerm (.new 0xFF) := rfl

theorem nodeOfTerm_node (n : Byte) : nodeOfTerm (.node n) = nodeOfTerm (.new n) := rfl

/-- NID_BROADCAST answers what NID_NEW answers for 0xFF (R101). -/
theorem exec_nidBroadcast_eq_nidNew (s : State) : exec .nidBroadcast s = exec (.nidNew 0xFF) s := rfl

end Sys2Proof.Machine

namespace Sys2Proof.Proofs

open Sys2Proof.Machine

/-- Settles O35, row by row. -/
theorem decodeOfEncode : Obligations.DecodeOfEncode :=
  fun _ _ ht hi => decode_encode ht hi

/-- Settles O36: each match word is the row's default code, shifted into its place. -/
theorem maskAndMatchSelectTheCommand : Obligations.MaskAndMatchSelectTheCommand :=
  fun _ pay hw => ⟨and_mask_eq_iff_decode_eq hw pay .stop, and_mask_eq_iff_decode_eq hw pay .ping,
    and_mask_eq_iff_decode_eq hw pay .pong, and_mask_eq_iff_decode_eq hw pay .notifySwitchState,
    and_mask_eq_iff_decode_eq hw pay .setDuty⟩

/-- Settles O34: the code fields of the two frames name their commands, and the three selects their operations. -/
theorem wordsDecodeToTheirInstructions : Obligations.WordsDecodeToTheirInstructions :=
  ⟨(decode_extended_eq_ok_iff (by decide)).mpr ⟨.notifySwitchState, rfl, rfl⟩,
    (decode_extended_eq_ok_iff (by decide)).mpr ⟨.setDuty, rfl, rfl⟩, rfl, rfl, rfl⟩

/-- Settles O37: the decoder rejects the select, and the step refuses what the decoder rejects so. -/
theorem reservedOperationSelectIsRefused : Obligations.ReservedOperationSelectIsRefused :=
  fun s _ w _ hlo hhi hq => step_of_reject hq (decodeOpsel_reserved s.cfg.code w hlo hhi)

/-- Settles O40: the word is the only request presented, and the table at reset is the one the word is read with. -/
theorem tableWordRunsFirstAfterReset : Obligations.TableWordRunsFirstAfterReset :=
  fun nbits w _ h => step_of_decode (s := State.reset.withFetchWord nbits w) rfl (decodeTableWord_eq_some_iff.mp h)

/-- Settles O55: the two forms denote the node of `NodeIdentity::new`, and alone they have its outcome. -/
theorem pseudoOperationsExpand : Obligations.PseudoOperationsExpand := by
  intro s n c x y
  simp only [instrOfTerm, nodeOfTerm_broadcast, nodeOfTerm_node, exec_nidBroadcast_eq_nidNew, and_self]

end Sys2Proof.Proofs

/-! PROOF. The NodeIdentity operations (R100 to R103), which instructions consult no parameter, and that no address
decides a parse (R104, R242). -/

namespace Sys2Proof.Machine

/-! ### The NodeIdentity operations -/

theorem exec_nidNew (raw : Byte) (s : State) : exec (.nidNew raw) s = .next (s.respond (.ok (.node ⟨raw⟩))) :=
  exec_of_reply rfl

/-- The answer of NID_NEW determines its raw byte, and conversely. -/
theorem exec_nidNew_eq_next_iff {s : State} {raw : Byte} {n : NodeIdentity} :
    exec (.nidNew raw) s = .next (s.respond (.ok (.node n))) ↔ n = ⟨raw⟩ := by
  rw [exec_nidNew, Host.Outcome.next.injEq, State.respond_inj, Response.ok.injEq, Result.node.injEq]
  exact eq_comm

theorem exec_nidIsBroadcast (n : NodeIdentity) (s : State) :
    exec (.nidIsBroadcast n) s = .next (s.respond (.ok (.bit (if n.raw = 0xFF then 1 else 0)))) :=
  exec_of_reply rfl

/-! ### The reply of a command row -/

theorem reply_commandInstr (cfg : Config) (c : Command) (snd rcv : NodeIdentity) (p : Payload) :
    reply cfg (commandInstr c snd rcv p) = some (receivedReply c snd rcv p) := by
  cases c <;> rfl

/-! ### What an extended frame parses to -/

theorem responseOf_resultOf_eq_ok_iff {α : Type} {f : α → Result} {x : Except FailureKind α} {v : Result} :
    responseOf (resultOf f x) = .ok v ↔ ∃ a, x = .ok a ∧ f a = v := by
  cases x <;> simp [responseOf, resultOf]

theorem responseOf_resultOf_eq_err_iff {α : Type} {f : α → Result} {x : Except FailureKind α} {k : FailureKind} :
    responseOf (resultOf f x) = .err k ↔ x = .error k := by
  cases x <;> simp [responseOf, resultOf]

/-- The Data value or the failure an extended frame parses to, from its code field and its payload alone
(`parseFrame_extended`). -/
def parseData (t : CodeTable) (code : Code) (p : Payload) : Except FailureKind Data :=
  (lookupCommand t code).bind fun c => decodePayload c p

/-- FR_PARSE judges the code and the payload, and only reports the addresses. -/
theorem parseFrame_extended (t : CodeTable) (v : Ident) (p : Payload) :
    parseFrame t ⟨.extended, v, p⟩ =
      (parseData t (codeField v) p).map fun d => (⟨senderField v⟩, ⟨receiverField v⟩, d) := by
  rw [parseFrame, unpackIdent, parseData]
  cases lookupCommand t (codeField v) with
  | error e => rfl
  | ok c =>
    simp only [Except.bind]
    cases decodePayload c p <;> rfl

theorem parseFrame_append (t : CodeTable) (code : Code) (snd rcv : Byte) (p : Payload) :
    parseFrame t ⟨.extended, code ++ snd ++ rcv, p⟩ =
      (parseData t code p).map fun d => (⟨snd⟩, ⟨rcv⟩, d) := by
  rw [← packFields_eq_append, parseFrame_extended, codeField_packFields, senderField_packFields,
    receiverField_packFields]

theorem exec_frParse_append_eq_parsed_iff {s : State} {code : Code} {snd rcv : Byte} {p : Payload} {d : Data} :
    exec (.frParse ⟨.extended, code ++ snd ++ rcv, p⟩) s = .next (s.respond (.ok (.parsed ⟨snd⟩ ⟨rcv⟩ d))) ↔
      parseData s.cfg.code code p = .ok d := by
  rw [exec_eq_next_respond_iff, reply, Option.some.injEq, responseOf_resultOf_eq_ok_iff, parseFrame_append]
  cases parseData s.cfg.code code p <;> simp [Except.map]

theorem exec_frParse_append_eq_err_iff {s : State} {code : Code} {snd rcv : Byte} {p : Payload} {k : FailureKind} :
    exec (.frParse ⟨.extended, code ++ snd ++ rcv, p⟩) s = .next (s.respond (.err k)) ↔
      parseData s.cfg.code code p = .error k := by
  rw [exec_eq_next_respond_iff, reply, Option.some.injEq, responseOf_resultOf_eq_err_iff, parseFrame_append]
  cases parseData s.cfg.code code p <;> simp [Except.map]

end Sys2Proof.Machine

namespace Sys2Proof.Proofs

open Sys2Proof.Machine

/-- Settles O29: the code and the payload alone decide the Data value or the failure, and no address occurs in them. -/
theorem addressesNeverDecideAParse : Obligations.AddressesNeverDecideAParse := by
  intro s code snd rcv snd' rcv' p
  constructor
  · intro d h
    have hdata : parseData s.cfg.code code p = .ok d := exec_frParse_append_eq_parsed_iff.mp h
    exact exec_frParse_append_eq_parsed_iff.mpr hdata
  · intro k h
    have hfail : parseData s.cfg.code code p = .error k := exec_frParse_append_eq_err_iff.mp h
    exact exec_frParse_append_eq_err_iff.mpr hfail

/-- Settles O33: the reply of each of these instructions is the same whatever the parameters. -/
theorem codeTableIsNotConsulted : Obligations.CodeTableIsNotConsulted := by
  intro s s' r i hi h
  have hr : reply s.cfg i = some r := exec_eq_next_respond_iff.mp h
  have hsame : reply s'.cfg i = reply s.cfg i := by
    obtain ⟨raw, rfl⟩ | rfl | ⟨n, rfl⟩ | ⟨v, rfl⟩ | ⟨d, rfl⟩ | ⟨c, p, rfl⟩ | ⟨c, snd, rcv, p, rfl⟩ := hi
    pick_goal 7
    · exact (reply_commandInstr s'.cfg c snd rcv p).trans (reply_commandInstr s.cfg c snd rcv p).symm
    all_goals rfl
  exact exec_of_reply (hsame.trans hr)

/-- Settles O1: the answer of NID_NEW and its raw byte determine each other. -/
theorem nidNewAnswersItsRawByte : Obligations.NidNewAnswersItsRawByte := by
  intro s raw
  refine ⟨exec_nidNew raw s, fun _ _ => rfl, fun raw' h => ?_, (exec_nidBroadcast_eq_nidNew s).symm,
    exec_nidIsBroadcast ⟨0xFF⟩ s⟩
  rw [exec_nidNew raw, exec_nidNew_eq_next_iff, NodeIdentity.mk.injEq] at h
  exact h.symm

/-- Settles O2: NID_BROADCAST is NID_NEW of the sentinel. -/
theorem nidBroadcastAnswersSentinel : Obligations.NidBroadcastAnswersSentinel :=
  fun s => ⟨(exec_nidBroadcast_eq_nidNew s).trans (exec_nidNew 0xFF s), fun _ _ => rfl, exec_nidBroadcast_eq_nidNew s⟩

/-- Settles O3: the comparison is with the sentinel, and the select and the byte `n` are all the decoder reads. -/
theorem nidIsBroadcastComparesWithSentinel : Obligations.NidIsBroadcastComparesWithSentinel :=
  fun s n => ⟨exec_nidIsBroadcast n s, fun _ _ => rfl⟩

/-- Settles O4: either way the NodeIdentity answered is that of the sentinel. -/
theorem broadcastAliasing : Obligations.BroadcastAliasing := by
  intro s s' n h
  rw [exec_nidBroadcast_eq_nidNew, or_self] at h
  obtain rfl : n = ⟨0xFF⟩ := exec_nidNew_eq_next_iff.mp h
  exact exec_nidIsBroadcast ⟨0xFF⟩ s'

end Sys2Proof.Proofs

/-! PROOF. The registry operations (R113 to R117): when each answers what, over the code table and the range bounds; and
the reset state, whose parameters meet their constraints. -/

namespace Sys2Proof.Machine

/-! ### CMD_CODE and CMD_LOOKUP -/

/-- A lookup in an injective table finds a command exactly when the command has the code (R111, R114). -/
theorem lookupCommand_eq_ok_iff {t : CodeTable} (ht : t.Admissible) {v : Code} {c : Command} :
    lookupCommand t v = .ok c ↔ codeOf t c = v :=
  ⟨lookupCommand_ok, fun h => h ▸ lookupCommand_codeOf ht c⟩

theorem exec_cmdCode (c : Command) (s : State) :
    exec (.cmdCode c) s = .next (s.respond (.ok (.code (codeOf s.cfg.code c)))) :=
  exec_of_reply rfl

/-- CMD_CODE answers one code only, the table's. -/
theorem exec_cmdCode_eq_code_iff {s : State} {c : Command} {v : Code} :
    exec (.cmdCode c) s = .next (s.respond (.ok (.code v))) ↔ codeOf s.cfg.code c = v := by
  rw [exec_cmdCode, Host.Outcome.next.injEq, State.respond_inj, Response.ok.injEq, Result.code.injEq]

theorem exec_cmdLookup_eq_command_iff {s : State} (ht : s.cfg.code.Admissible) {v : Code} {c : Command} :
    exec (.cmdLookup v) s = .next (s.respond (.ok (.command c))) ↔ codeOf s.cfg.code c = v := by
  rw [exec_eq_next_respond_iff, reply, Option.some.injEq, responseOf_resultOf_eq_ok_iff]
  simp [lookupCommand_eq_ok_iff ht]

theorem exec_cmdLookup_eq_unknownCommand_iff {s : State} {v : Code} :
    exec (.cmdLookup v) s = .next (s.respond (.err .unknownCommand)) ↔ ∀ c : Command, codeOf s.cfg.code c ≠ v := by
  rw [exec_eq_next_respond_iff, reply, Option.some.injEq, responseOf_resultOf_eq_err_iff, lookupCommand_error_iff]
  exact and_iff_right rfl

/-! ### CMD_RANGE -/

/-- The bounds of R32 as numbers. -/
theorem rangeOf_eq_ite_toNat (v : Code) :
    rangeOf v = if v.toNat ≤ 31 then .system else if v.toNat ≤ 2815 then .control
      else if v.toNat ≤ 5599 then .telemetry else .config := rfl

theorem exec_cmdRange (v : Code) (s : State) : exec (.cmdRange v) s = .next (s.respond (.ok (.range (rangeOf v)))) :=
  exec_of_reply rfl

/-- The default codes but that of SetDuty are below 0x0020 (R112, R117). -/
theorem rangeOf_defaultCode {c : Command} (hc : c ≠ .setDuty) : rangeOf (codeOf defaultCode c) = .system := by
  cases c with
  | setDuty => exact absurd rfl hc
  | stop | ping | pong | notifySwitchState => rfl

/-! ### The reset state -/

theorem defaultCode_admissible : defaultCode.Admissible :=
  (distinct_iff_admissible defaultCode).mp (by decide)

/-- A constructor without exceptional answers meets the law of R171, whatever its cap. -/
theorem faithful_of_no_answers (cap : Nat) : FrameCtor.Faithful ⟨cap, []⟩ := by
  intro v p f h
  rw [ctorApply_nil] at h
  split at h
  · cases h; exact ⟨rfl, rfl, rfl⟩
  · cases h

theorem defaultConfig_ok : defaultConfig.Ok :=
  ⟨defaultCode_admissible, faithful_of_no_answers frameCap⟩

end Sys2Proof.Machine

namespace Sys2Proof.Proofs

open Sys2Proof.Machine

/-- Settles O6: in an injective table a lookup finds the command that has the code, and fails where none has it. -/
theorem cmdLookupFindsExactlyTheRegistered : Obligations.CmdLookupFindsExactlyTheRegistered :=
  fun _ _ ht => ⟨fun _ hc => (exec_cmdLookup_eq_command_iff ht).mpr hc,
    fun hnone => exec_cmdLookup_eq_unknownCommand_iff.mpr hnone, fun _ _ => rfl⟩

/-- Settles O7: either answer says that `v` is the table's code of `c`. -/
theorem cmdCodeAndLookupAreInverse : Obligations.CmdCodeAndLookupAreInverse := by
  intro s s' c v ht hcfg
  have ht' : s'.cfg.code.Admissible := hcfg ▸ ht
  calc exec (.cmdCode c) s = .next (s.respond (.ok (.code v)))
      ↔ codeOf s.cfg.code c = v := exec_cmdCode_eq_code_iff
    _ ↔ codeOf s'.cfg.code c = v := by rw [hcfg]
    _ ↔ exec (.cmdLookup v) s' = .next (s'.respond (.ok (.command c))) := (exec_cmdLookup_eq_command_iff ht').symm

/-- Settles O5: the entry of each command is what `codeOf` reads, and the wire that drives it reads as the command. -/
theorem cmdCodeAnswersTableEntry : Obligations.CmdCodeAnswersTableEntry :=
  fun s => ⟨exec_cmdCode .stop s, exec_cmdCode .ping s, exec_cmdCode .pong s, exec_cmdCode .setDuty s,
    exec_cmdCode .notifySwitchState s, fun _ _ c ht => withCommand_codeOf ht c .cmdCode⟩

/-- Settles O8: the comparisons of the model are those of the numbers. -/
theorem cmdRangeByInclusiveBounds : Obligations.CmdRangeByInclusiveBounds :=
  fun s v => ⟨rangeOf_eq_ite_toNat v ▸ exec_cmdRange v s, fun _ _ => rfl⟩

/-- Settles O9, by the range of each default code. -/
theorem rangesOfTheDefaultCodes : Obligations.RangesOfTheDefaultCodes :=
  fun s => ⟨fun _ hc => rangeOf_defaultCode hc ▸ exec_cmdRange _ s, exec_cmdRange (codeOf defaultCode .setDuty) s⟩

/-- Settles O49: the default parameters meet their constraints, and no response has been given. -/
theorem resetHasInvariant : Obligations.ResetHasInvariant :=
  ⟨defaultConfig_ok, List.forall_mem_nil _⟩

/-- Settles O50: each field of the reset state is the default written out. -/
theorem resetHoldsTheDefaultParameters : Obligations.ResetHoldsTheDefaultParameters :=
  ⟨rfl, rfl, State.reset_requests, State.reset_responses⟩

end Sys2Proof.Proofs

/-! PROOF. The identifier codec (R130 to R134): the identifier as a sum of its shifted fields, when ID_UNPACK answers
what, and that packing and unpacking speak of the same three fields. -/

namespace Sys2Proof.Machine

/-! ### The identifier as a number and as three fields -/

/-- Concatenating is shifting and adding: the fields occupy disjoint bits (R132). -/
theorem toNat_append_eq_add {m n : Nat} (x : BitVec m) (y : BitVec n) :
    (x ++ y).toNat = x.toNat * 2 ^ n + y.toNat := by
  rw [BitVec.toNat_append, ← Nat.shiftLeft_add_eq_or_of_lt y.isLt, Nat.shiftLeft_eq]

/-- The packed identifier is the sum of the shifted fields (R130, R132). -/
theorem packIdent_toNat (t : CodeTable) (c : Command) (snd rcv : NodeIdentity) :
    (packIdent t c snd rcv).toNat = (codeOf t c).toNat * 2 ^ 16 + snd.raw.toNat * 2 ^ 8 + rcv.raw.toNat := by
  rw [packIdent_eq_append, toNat_append_eq_add, toNat_append_eq_add]
  omega

theorem packFields_eq_iff {code : Code} {snd rcv : Byte} {v : Ident} :
    packFields code snd rcv = v ↔ code = codeField v ∧ snd = senderField v ∧ rcv = receiverField v := by
  constructor
  · rintro rfl
    exact ⟨(codeField_packFields code snd rcv).symm, (senderField_packFields code snd rcv).symm,
      (receiverField_packFields code snd rcv).symm⟩
  · rintro ⟨rfl, rfl, rfl⟩
    exact packFields_fields v

theorem packIdent_eq_iff {t : CodeTable} {c : Command} {snd rcv : NodeIdentity} {v : Ident} :
    packIdent t c snd rcv = v ↔ codeOf t c = codeField v ∧ snd = ⟨senderField v⟩ ∧ rcv = ⟨receiverField v⟩ := by
  cases snd
  cases rcv
  rw [packIdent, packFields_eq_iff, NodeIdentity.mk.injEq, NodeIdentity.mk.injEq]

/-! ### ID_PACK -/

theorem exec_idPack (c : Command) (snd rcv : NodeIdentity) (s : State) :
    exec (.idPack c snd rcv) s = .next (s.respond (.ok (.ident (packIdent s.cfg.code c snd rcv)))) :=
  exec_of_reply rfl

theorem exec_idPack_eq_ident_iff {s : State} {c : Command} {snd rcv : NodeIdentity} {v : Ident} :
    exec (.idPack c snd rcv) s = .next (s.respond (.ok (.ident v))) ↔ packIdent s.cfg.code c snd rcv = v := by
  rw [exec_idPack, Host.Outcome.next.injEq, State.respond_inj, Response.ok.injEq, Result.ident.injEq]

/-! ### ID_UNPACK -/

/-- The kind is judged first: no bit of `v` is looked at (R131). -/
theorem exec_idUnpack_standard (v : Ident) (s : State) :
    exec (.idUnpack .standard v) s = .next (s.respond (.err .wrongIdentifierKind)) :=
  exec_of_reply rfl

/-- An extended identifier is unpacked exactly when its code is found; the addresses are its other two fields. -/
theorem unpackIdent_extended_eq_ok_iff {t : CodeTable} {v : Ident} {c : Command} {snd rcv : NodeIdentity} :
    unpackIdent t .extended v = .ok (c, snd, rcv) ↔
      lookupCommand t (codeField v) = .ok c ∧ snd = ⟨senderField v⟩ ∧ rcv = ⟨receiverField v⟩ := by
  cases h : lookupCommand t (codeField v) <;> simp [unpackIdent, h, eq_comm]

/-- On an extended identifier, unpacking fails only by the lookup of its code. -/
theorem unpackIdent_extended_eq_error_iff {t : CodeTable} {v : Ident} {k : FailureKind} :
    unpackIdent t .extended v = .error k ↔ lookupCommand t (codeField v) = .error k := by
  cases h : lookupCommand t (codeField v) <;> simp [unpackIdent, h]

theorem exec_idUnpack_extended_eq_unpacked_iff {s : State} (ht : s.cfg.code.Admissible) {v : Ident} {c : Command}
    {snd rcv : NodeIdentity} :
    exec (.idUnpack .extended v) s = .next (s.respond (.ok (.unpacked c snd rcv))) ↔
      codeOf s.cfg.code c = codeField v ∧ snd = ⟨senderField v⟩ ∧ rcv = ⟨receiverField v⟩ := by
  rw [exec_eq_next_respond_iff, reply, Option.some.injEq, responseOf_resultOf_eq_ok_iff, ← lookupCommand_eq_ok_iff ht,
    ← unpackIdent_extended_eq_ok_iff]
  simp

theorem exec_idUnpack_extended_eq_unknownCommand_iff {s : State} {v : Ident} :
    exec (.idUnpack .extended v) s = .next (s.respond (.err .unknownCommand)) ↔
      ∀ c : Command, codeOf s.cfg.code c ≠ codeField v := by
  rw [exec_eq_next_respond_iff, reply, Option.some.injEq, responseOf_resultOf_eq_err_iff,
    unpackIdent_extended_eq_error_iff, lookupCommand_error_iff]
  exact and_iff_right rfl

theorem decode_idUnpack (t : CodeTable) (w : OperandWires) (k : IdentifierKind) (v : Ident) :
    decode t (.opsel 0x7 { w with k := kindWire k, idval := v }) = .ok (.idUnpack k v) :=
  congrArg (fun k => Except.ok (Instr.idUnpack k v)) (readKind_kindWire k)

end Sys2Proof.Machine

namespace Sys2Proof.Proofs

open Sys2Proof.Machine

/-- Settles O10: the identifier answered is the sum of its fields, so the sum is bounded as a 29-bit value is. -/
theorem idPackSumsShiftedFields : Obligations.IdPackSumsShiftedFields := by
  intro s c snd rcv
  have hsum := packIdent_toNat s.cfg.code c snd rcv
  refine ⟨⟨_, exec_idPack c snd rcv s, hsum, packIdent_eq_append s.cfg.code c snd rcv⟩, ?_, fun t w ht => ?_⟩
  · exact hsum ▸ (packIdent s.cfg.code c snd rcv).isLt
  · exact withCommand_codeOf ht c (.idPack · snd rcv)

/-- Settles O11: the kind, then the code field, decide the answer; the addresses are the other two fields as they
stand. -/
theorem idUnpackStages : Obligations.IdUnpackStages := by
  intro s v ht
  refine ⟨exec_idUnpack_standard v s, fun c hc => ?_, fun hnone => ?_, fun t w k => decode_idUnpack t w k v⟩
  · exact (exec_idUnpack_extended_eq_unpacked_iff ht).mpr ⟨hc, rfl, rfl⟩
  · exact exec_idUnpack_extended_eq_unknownCommand_iff.mpr hnone

/-- Settles O12: either answer says that the fields of `v` are the code of `c` and the two addresses. -/
theorem idPackAndUnpackAreInverse : Obligations.IdPackAndUnpackAreInverse := by
  intro s s' c snd rcv v ht hcfg
  have ht' : s'.cfg.code.Admissible := hcfg ▸ ht
  calc exec (.idPack c snd rcv) s = .next (s.respond (.ok (.ident v)))
      ↔ packIdent s.cfg.code c snd rcv = v := exec_idPack_eq_ident_iff
    _ ↔ codeOf s.cfg.code c = codeField v ∧ snd = ⟨senderField v⟩ ∧ rcv = ⟨receiverField v⟩ := packIdent_eq_iff
    _ ↔ codeOf s'.cfg.code c = codeField v ∧ snd = ⟨senderField v⟩ ∧ rcv = ⟨receiverField v⟩ := by rw [hcfg]
    _ ↔ exec (.idUnpack .extended v) s' = .next (s'.respond (.ok (.unpacked c snd rcv))) :=
      (exec_idUnpack_extended_eq_unpacked_iff ht').symm

end Sys2Proof.Proofs

/-! PROOF. The payload codec (R140 to R154): the bytes of each Data value, what a payload decodes to, and that a payload
decodes to exactly the Data value it is the bytes of; then the five command rows, which decode their payload the same
way. -/

namespace Sys2Proof.Machine

/-! ### The bytes of a Data value -/

theorem extractLsb'_eight_eq_div (v : Half) : v.extractLsb' 8 8 = BitVec.ofNat 8 (v.toNat / 256) := by
  apply BitVec.eq_of_toNat_eq
  simp [Nat.shiftRight_eq_div_pow]

theorem extractLsb'_zero_eq_mod (v : Half) : v.extractLsb' 0 8 = BitVec.ofNat 8 (v.toNat % 256) := by
  apply BitVec.eq_of_toNat_eq
  simp

theorem dirEncode_eq_ite (di : Dir) : dirEncode di = if di = .cw then 0x00 else 0x01 := by
  cases di <;> rfl

theorem stateEncode_eq_ite (st : SwitchState) : stateEncode st = if st = .off then 0x00 else 0x01 := by
  cases st <;> rfl

/-- The duty goes out as its quotient and its remainder by 256 (R146). -/
theorem encodePayload_setDuty_eq_div_mod (ch : Channel) (du : Duty) (di : Dir) :
    encodePayload (.setDuty ch du di) = [ch.val, BitVec.ofNat 8 (du.val.toNat / 256),
      BitVec.ofNat 8 (du.val.toNat % 256), if di = .cw then 0x00 else 0x01] := by
  rw [encodePayload_setDuty, extractLsb'_eight_eq_div, extractLsb'_zero_eq_mod, dirEncode_eq_ite]

theorem encodePayload_notifySwitchState_eq_ite (ch : Channel) (st : SwitchState) :
    encodePayload (.notifySwitchState ch st) = [ch.val, if st = .off then 0x00 else 0x01] := by
  rw [encodePayload_notifySwitchState, stateEncode_eq_ite]

/-! ### What a payload decodes to -/

/-- The value two bytes name as a number is their big-endian join (R55). -/
theorem eq_join_of_toNat_eq {hi lo : Byte} {v : Half} (h : v.toNat = hi.toNat * 256 + lo.toNat) :
    v = (hi.zeroExtend 16 <<< 8) ||| lo.zeroExtend 16 :=
  BitVec.eq_of_toNat_eq (h.trans (toNat_join hi lo).symm)

/-- The bytes of a Data value decode to it under its command (R150). -/
theorem decodePayload_encodePayload (d : Data) : decodePayload (commandOf d) (encodePayload d) = .ok d := by
  rw [decodePayload_of_length (encodePayload_length d)]
  cases d with
  | stop | ping | pong => rfl
  | setDuty ch du di =>
    rw [commandOf, decoderOf, encodePayload_setDuty, decSetDuty_four, dirDecode_dirEncode, join_halves]
  | notifySwitchState ch st =>
    rw [commandOf, decoderOf, encodePayload_notifySwitchState, decNotifySwitchState_two, stateDecode_stateEncode]

/-- A payload that SetDuty's decoder takes is the bytes of the value it answers. -/
theorem encodePayload_of_decSetDuty {p : Payload} {d : Data} (hp : p.length = 4) (h : decSetDuty p = .ok d) :
    encodePayload d = p := by
  obtain ⟨b0, b1, b2, b3, rfl⟩ := List.length_eq_four.mp hp
  rw [decSetDuty_four] at h
  split at h
  · next di hdi =>
    cases h
    rw [encodePayload_setDuty, split_join_hi, split_join_lo, dirDecode_ok hdi]
  · cases h

/-- A payload that NotifySwitchState's decoder takes is the bytes of the value it answers. -/
theorem encodePayload_of_decNotifySwitchState {p : Payload} {d : Data} (hp : p.length = 2)
    (h : decNotifySwitchState p = .ok d) : encodePayload d = p := by
  obtain ⟨b0, b1, rfl⟩ := List.length_eq_two.mp hp
  rw [decNotifySwitchState_two] at h
  split at h
  · next st hst =>
    cases h
    rw [encodePayload_notifySwitchState, stateDecode_ok hst]
  · cases h

/-- A payload accepted under a command is the bytes of the Data value answered (R151). -/
theorem encodePayload_of_decodePayload {c : Command} {p : Payload} {d : Data} (h : decodePayload c p = .ok d) :
    encodePayload d = p := by
  obtain ⟨hlen, hdec⟩ := checkedDecode_ok h
  cases c with
  | stop | ping | pong =>
    cases hdec
    exact (List.length_eq_zero_iff.mp hlen).symm
  | setDuty => exact encodePayload_of_decSetDuty hlen hdec
  | notifySwitchState => exact encodePayload_of_decNotifySwitchState hlen hdec

/-- A payload decodes to a Data value exactly when it is the bytes of that value, under its command (R150, R151). -/
theorem decodePayload_eq_ok_iff {c : Command} {p : Payload} {d : Data} :
    decodePayload c p = .ok d ↔ c = commandOf d ∧ encodePayload d = p := by
  constructor
  · intro h
    exact ⟨(decodePayload_ok h).symm, encodePayload_of_decodePayload h⟩
  · rintro ⟨rfl, rfl⟩
    exact decodePayload_encodePayload d

/-! ### The response to a payload, whichever result the decoded value goes into -/

/-- The length is judged before any byte is read (R142). -/
theorem responseOf_decode_of_length_ne (f : Data → Result) {c : Command} {p : Payload}
    (h : p.length ≠ payloadLength c) :
    responseOf (resultOf f (decodePayload c p)) = .err .malformedPayloadLength := by
  rw [decodePayload_of_length_ne h]; rfl

/-- A command without fields takes the empty payload and no other (R143 to R145). -/
theorem responseOf_decode_of_payloadLength_zero (f : Data → Result) {d : Data} (hd : payloadLength (commandOf d) = 0)
    (p : Payload) : responseOf (resultOf f (decodePayload (commandOf d) p)) =
      if p = [] then .ok (f d) else .err .malformedPayloadLength := by
  split_ifs with hp
  · have hnil : encodePayload d = [] := List.length_eq_zero_iff.mp ((encodePayload_length d).trans hd)
    rw [decodePayload_eq_ok_iff.mpr ⟨rfl, hnil.trans hp.symm⟩]; rfl
  · exact responseOf_decode_of_length_ne f (hd ▸ mt List.length_eq_zero_iff.mp hp)

/-- The direction byte alone decides whether four bytes are a SetDuty (R146, R148). -/
theorem responseOf_decode_setDuty (f : Data → Result) (b0 b1 b2 b3 : Byte) {du : Half}
    (hdu : du.toNat = b1.toNat * 256 + b2.toNat) :
    responseOf (resultOf f (decodePayload .setDuty [b0, b1, b2, b3])) =
      if b3 = 0x00 then .ok (f (.setDuty ⟨b0⟩ ⟨du⟩ .cw))
      else if b3 = 0x01 then .ok (f (.setDuty ⟨b0⟩ ⟨du⟩ .ccw))
      else .err .invalidEnumValue := by
  rw [decodePayload_of_length rfl, decoderOf, decSetDuty_four, ← eq_join_of_toNat_eq hdu, dirDecode]
  split_ifs <;> rfl

/-- The state byte alone decides whether two bytes are a NotifySwitchState (R147, R149). -/
theorem responseOf_decode_notifySwitchState (f : Data → Result) (b0 b1 : Byte) :
    responseOf (resultOf f (decodePayload .notifySwitchState [b0, b1])) =
      if b1 = 0x00 then .ok (f (.notifySwitchState ⟨b0⟩ .off))
      else if b1 = 0x01 then .ok (f (.notifySwitchState ⟨b0⟩ .on))
      else .err .invalidEnumValue := by
  rw [decodePayload_of_length rfl, decoderOf, decNotifySwitchState_two, stateDecode]
  split_ifs <;> rfl

/-! ### PL_ENCODE -/

theorem exec_plEncode (d : Data) (s : State) :
    exec (.plEncode d) s = .next (s.respond (.ok (.payload (encodePayload d)))) :=
  exec_of_reply rfl

theorem exec_plEncode_eq_payload_iff {s : State} {d : Data} {p : Payload} :
    exec (.plEncode d) s = .next (s.respond (.ok (.payload p))) ↔ encodePayload d = p := by
  rw [exec_plEncode, Host.Outcome.next.injEq, State.respond_inj, Response.ok.injEq, Result.payload.injEq]

/-! ### PL_DECODE -/

theorem exec_plDecode_of_response {c : Command} {p : Payload} {r : Response}
    (h : responseOf (resultOf .data (decodePayload c p)) = r) (s : State) :
    exec (.plDecode c p) s = .next (s.respond r) :=
  exec_of_reply (congrArg some h)

theorem exec_plDecode_eq_data_iff {s : State} {c : Command} {p : Payload} {d : Data} :
    exec (.plDecode c p) s = .next (s.respond (.ok (.data d))) ↔ decodePayload c p = .ok d := by
  rw [exec_eq_next_respond_iff, reply, Option.some.injEq, responseOf_resultOf_eq_ok_iff]
  simp

theorem exec_plDecode_encodePayload (d : Data) (s : State) :
    exec (.plDecode (commandOf d) (encodePayload d)) s = .next (s.respond (.ok (.data d))) :=
  exec_plDecode_eq_data_iff.mpr (decodePayload_encodePayload d)

theorem exec_plDecode_of_length_ne {c : Command} {p : Payload} (h : p.length ≠ payloadLength c) (s : State) :
    exec (.plDecode c p) s = .next (s.respond (.err .malformedPayloadLength)) :=
  exec_plDecode_of_response (responseOf_decode_of_length_ne .data h) s

theorem decode_plDecode {t : CodeTable} (ht : t.Admissible) (w : OperandWires) (c : Command) {p : Payload}
    (hp : p.length ≤ 8) :
    decode t (.opsel 0x9 { w with c := codeOf t c, p := payloadWires p }) = .ok (.plDecode c p) := by
  refine (withCommand_codeOf ht c _).trans ?_
  rw [readPayload_payloadWires hp]

/-! ### The payload on wires -/

/-- The byte at an index below the length: a lane, or past the eight lanes the byte no lane carries (log 9). -/
theorem readPayload_getElem? {w : PayloadWires} {i : Nat} (hi : i < w.len.toNat) :
    (readPayload w)[i]? =
      if i < 8 then (lanes w)[i]? else ((List.range 7).map Config.absentLane)[i - 8]? := by
  rw [readPayload, List.getElem?_take_of_lt hi, List.getElem?_append]
  rfl

/-- The length and the lanes below it are all that a payload is read from (R154). -/
theorem readPayload_congr {w w' : PayloadWires} (hlen : w.len = w'.len)
    (hlanes : ∀ i < w.len.toNat, (lanes w)[i]? = (lanes w')[i]?) : readPayload w = readPayload w' := by
  apply List.ext_getElem?
  intro i
  by_cases hi : i < w.len.toNat
  · rw [readPayload_getElem? hi, readPayload_getElem? (hlen ▸ hi), hlanes i hi]
  · have hi' : ¬ i < w'.len.toNat := hlen ▸ hi
    rw [List.getElem?_eq_none (by rw [readPayload_length]; omega),
      List.getElem?_eq_none (by rw [readPayload_length]; omega)]

/-! ### The command rows -/

theorem exec_commandInstr_of_response {c : Command} {snd rcv : NodeIdentity} {p : Payload} {r : Response}
    (h : receivedReply c snd rcv p = r) (s : State) : exec (commandInstr c snd rcv p) s = .next (s.respond r) :=
  exec_of_reply ((reply_commandInstr s.cfg c snd rcv p).trans (congrArg some h))

theorem exec_commandInstr_of_payloadLength_zero {d : Data} (hd : payloadLength (commandOf d) = 0)
    (snd rcv : NodeIdentity) (p : Payload) (s : State) :
    exec (commandInstr (commandOf d) snd rcv p) s = .next (s.respond
      (if p = [] then .ok (.parsed snd rcv d) else .err .malformedPayloadLength)) :=
  exec_commandInstr_of_response (responseOf_decode_of_payloadLength_zero (.parsed snd rcv) hd p) s

theorem exec_commandInstr_of_length_ne {c : Command} {p : Payload} (h : p.length ≠ payloadLength c)
    (snd rcv : NodeIdentity) (s : State) :
    exec (commandInstr c snd rcv p) s = .next (s.respond (.err .malformedPayloadLength)) :=
  exec_commandInstr_of_response (responseOf_decode_of_length_ne (.parsed snd rcv) h) s

/-- An extended identifier with a command's code decodes to the command's row, whatever payload the wires carry
(R70, R76). -/
theorem decode_xid29_append {t : CodeTable} (ht : t.Admissible) (c : Command) (snd rcv : NodeIdentity)
    (w : PayloadWires) :
    decode t (.xid29 1 (BitVec.setWidth 32 (codeOf t c ++ snd.raw ++ rcv.raw)) w) =
      .ok (commandInstr c snd rcv (readPayload w)) := by
  rw [← packFields_eq_append]
  have hcontainer : ((packFields (codeOf t c) snd.raw rcv.raw).setWidth 32).setWidth 29 =
      packFields (codeOf t c) snd.raw rcv.raw := by
    rw [BitVec.setWidth_setWidth_of_le _ (by decide), BitVec.setWidth_eq]
  have hword : ((packFields (codeOf t c) snd.raw rcv.raw).setWidth 32).toNat < 2 ^ 29 := by
    rw [BitVec.toNat_setWidth_of_le (by decide)]
    exact (packFields (codeOf t c) snd.raw rcv.raw).isLt
  refine (decode_extended_eq_ok_iff hword).mpr ⟨c, ?_, ?_⟩
  · rw [hcontainer, codeField_packFields, lookupCommand_codeOf ht]
  · rw [hcontainer, senderField_packFields, receiverField_packFields]

end Sys2Proof.Machine

namespace Sys2Proof.Proofs

open Sys2Proof.Machine

/-- Settles O13: PL_ENCODE answers the bytes of the value, and its wires read back as the value. -/
theorem plEncodeBytes : Obligations.PlEncodeBytes := by
  intro s
  refine ⟨exec_plEncode .stop s, exec_plEncode .ping s, exec_plEncode .pong s, fun ch du di => ?_, fun ch st => ?_,
    fun t w d ht => withData_dataWires ht d .plEncode⟩
  · exact exec_plEncode_eq_payload_iff.mpr (encodePayload_setDuty_eq_div_mod ch du di)
  · exact exec_plEncode_eq_payload_iff.mpr (encodePayload_notifySwitchState_eq_ite ch st)

/-- Settles O15: a payload of the right length is answered by its enumeration byte, where the command has one. -/
theorem plDecodeFields : Obligations.PlDecodeFields := by
  intro s
  refine ⟨exec_plDecode_encodePayload .stop s, exec_plDecode_encodePayload .ping s,
    exec_plDecode_encodePayload .pong s, fun b0 b1 b2 b3 du hdu => ?_, fun b0 b1 => ?_,
    fun t w c p ht hp => decode_plDecode ht w c hp⟩
  · exact exec_plDecode_of_response (responseOf_decode_setDuty .data b0 b1 b2 b3 hdu) s
  · exact exec_plDecode_of_response (responseOf_decode_notifySwitchState .data b0 b1) s

/-- Settles O16: either side says that `c` is the command of `d` and that `p` is the bytes of `d`. -/
theorem plEncodeAndDecodeAreInverse : Obligations.PlEncodeAndDecodeAreInverse := by
  intro s s' c d p
  calc (c = commandOf d ∧ exec (.plEncode d) s = .next (s.respond (.ok (.payload p))))
      ↔ c = commandOf d ∧ encodePayload d = p := and_congr_right' exec_plEncode_eq_payload_iff
    _ ↔ decodePayload c p = .ok d := decodePayload_eq_ok_iff.symm
    _ ↔ exec (.plDecode c p) s' = .next (s'.respond (.ok (.data d))) := exec_plDecode_eq_data_iff.symm

/-- Settles O17: the two bundles of wires carry the same payload. -/
theorem plDecodeIgnoresLanesAboveLength : Obligations.PlDecodeIgnoresLanesAboveLength := by
  intro s c w w' hlen hlanes
  rw [readPayload_congr hlen hlanes]

/-- Settles O18: each of the three commands has the empty payload. -/
theorem emptyPayloadCommands : Obligations.EmptyPayloadCommands :=
  fun s snd rcv p => ⟨exec_commandInstr_of_payloadLength_zero (d := .stop) rfl snd rcv p s,
    exec_commandInstr_of_payloadLength_zero (d := .ping) rfl snd rcv p s,
    exec_commandInstr_of_payloadLength_zero (d := .pong) rfl snd rcv p s,
    fun _ w ht => ⟨decode_xid29_append ht .stop snd rcv w, decode_xid29_append ht .ping snd rcv w,
      decode_xid29_append ht .pong snd rcv w⟩⟩

/-- Settles O19: the length is judged first, then the direction byte. -/
theorem setDutyReceived : Obligations.SetDutyReceived := by
  intro s snd rcv p
  refine ⟨fun hlen => ?_, fun b0 b1 b2 b3 du hp hdu => ?_, fun t w ht => decode_xid29_append ht .setDuty snd rcv w⟩
  · exact exec_commandInstr_of_length_ne (c := .setDuty) hlen snd rcv s
  · subst hp
    exact exec_commandInstr_of_response (c := .setDuty)
      (responseOf_decode_setDuty (.parsed snd rcv) b0 b1 b2 b3 hdu) s

/-- Settles O20: the length is judged first, then the state byte. -/
theorem notifySwitchStateReceived : Obligations.NotifySwitchStateReceived := by
  intro s snd rcv p
  refine ⟨fun hlen => ?_, fun b0 b1 hp => ?_, fun t w ht => decode_xid29_append ht .notifySwitchState snd rcv w⟩
  · exact exec_commandInstr_of_length_ne (c := .notifySwitchState) hlen snd rcv s
  · subst hp
    exact exec_commandInstr_of_response (c := .notifySwitchState)
      (responseOf_decode_notifySwitchState (.parsed snd rcv) b0 b1) s

/-- Settles O14: the length table gives 0, 4 and 2, and any other length is malformed. -/
theorem plDecodeRejectsEveryOtherLength : Obligations.PlDecodeRejectsEveryOtherLength :=
  fun s _ => ⟨fun h => ⟨exec_plDecode_of_length_ne (c := .stop) h s, exec_plDecode_of_length_ne (c := .ping) h s,
      exec_plDecode_of_length_ne (c := .pong) h s⟩,
    fun h => exec_plDecode_of_length_ne (c := .setDuty) h s,
    fun h => exec_plDecode_of_length_ne (c := .notifySwitchState) h s⟩

end Sys2Proof.Proofs

/-! PROOF. The frame protocol (R171 to R181): what FR_BUILD hands the constructor, what a frame parses to, that the two
are inverse, and that a frame received over the wires is answered as FR_PARSE answers it. -/

namespace Sys2Proof.Machine

/-! ### FR_BUILD -/

/-- The frame FR_BUILD asks the constructor for (R173); a faithful constructor answers no other
(`eq_requestedFrame_of_buildFrame`). -/
def requestedFrame (t : CodeTable) (snd rcv : NodeIdentity) (d : Data) : Frame :=
  ⟨.extended, packIdent t (commandOf d) snd rcv, encodePayload d⟩

theorem eq_requestedFrame_of_buildFrame {cfg : Config} (hctor : cfg.ctor.Faithful) {snd rcv : NodeIdentity} {d : Data}
    {f : Frame} (h : buildFrame cfg snd rcv d = some f) : f = requestedFrame cfg.code snd rcv d := by
  obtain ⟨kind, idval, payload⟩ := f
  obtain ⟨rfl, rfl, rfl⟩ := hctor _ _ _ h
  rfl

/-- No payload the block builds is longer than 4 bytes, so a constructor that accepts those never refuses (R172). -/
theorem exists_buildFrame_of_acceptsUpTo {cfg : Config} {n : Nat} (hn : 4 ≤ n) (hctor : cfg.ctor.AcceptsUpTo n)
    (snd rcv : NodeIdentity) (d : Data) : ∃ f, buildFrame cfg snd rcv d = some f := by
  have hlen := encodePayload_length_cases d
  exact hctor _ _ (by omega)

theorem exec_frBuild_eq_frame_iff {s : State} {snd rcv : NodeIdentity} {d : Data} {f : Frame} :
    exec (.frBuild snd rcv d) s = .next (s.respond (.ok (.frame f))) ↔ buildFrame s.cfg snd rcv d = some f := by
  rw [exec_eq_next_respond_iff, reply]
  simp

theorem exec_frBuild_eq_buildFatal_iff {s : State} {snd rcv : NodeIdentity} {d : Data} :
    exec (.frBuild snd rcv d) s = .fault .buildFatal ↔ buildFrame s.cfg snd rcv d = none := by
  rw [exec_eq_buildFatal_iff, reply, Option.map_eq_none_iff]

/-! ### FR_PARSE, from what ID_UNPACK answers -/

/-- A frame whose command is resolved parses as its payload decodes (R174). -/
theorem parseFrame_of_unpackIdent_ok {t : CodeTable} {f : Frame} {c : Command} {snd rcv : NodeIdentity}
    (h : unpackIdent t f.kind f.idval = .ok (c, snd, rcv)) :
    parseFrame t f = (decodePayload c f.payload).map fun d => (snd, rcv, d) := by
  simp only [parseFrame, h]
  cases decodePayload c f.payload <;> rfl

/-- The payload is not examined when the kind or the code fails (R174, R176). -/
theorem parseFrame_of_unpackIdent_error {t : CodeTable} {f : Frame} {k : FailureKind}
    (h : unpackIdent t f.kind f.idval = .error k) : parseFrame t f = .error k := by
  rw [parseFrame, h]

/-- A frame parses only if its identifier is unpacked and its payload decoded (R174). -/
theorem parseFrame_ok {t : CodeTable} {f : Frame} {snd rcv : NodeIdentity} {d : Data}
    (h : parseFrame t f = .ok (snd, rcv, d)) :
    ∃ c, unpackIdent t f.kind f.idval = .ok (c, snd, rcv) ∧ decodePayload c f.payload = .ok d := by
  cases hu : unpackIdent t f.kind f.idval with
  | error k => rw [parseFrame_of_unpackIdent_error hu] at h; cases h
  | ok x =>
    obtain ⟨c, snd', rcv'⟩ := x
    rw [parseFrame_of_unpackIdent_ok hu] at h
    cases hd : decodePayload c f.payload with
    | error k => rw [hd] at h; cases h
    | ok d' => rw [hd] at h; cases h; exact ⟨c, rfl, hd⟩

theorem reply_frParse_of_unpackIdent_ok {cfg : Config} {f : Frame} {c : Command} {snd rcv : NodeIdentity}
    (h : unpackIdent cfg.code f.kind f.idval = .ok (c, snd, rcv)) :
    reply cfg (.frParse f) = some (receivedReply c snd rcv f.payload) := by
  rw [reply, parseFrame_of_unpackIdent_ok h, receivedReply]
  cases decodePayload c f.payload <;> rfl

theorem reply_frParse_of_unpackIdent_error {cfg : Config} {f : Frame} {k : FailureKind}
    (h : unpackIdent cfg.code f.kind f.idval = .error k) : reply cfg (.frParse f) = some (.err k) := by
  rw [reply, parseFrame_of_unpackIdent_error h]
  rfl

/-- FR_PARSE gives a parsed triple or a failure, and nothing else (R177). -/
theorem exists_response_of_frParse (s : State) (f : Frame) :
    ∃ r, exec (.frParse f) s = .next (s.respond r) ∧
      ((∃ snd rcv d, r = .ok (.parsed snd rcv d)) ∨ ∃ k, r = .err k) := by
  refine ⟨_, exec_of_reply rfl, ?_⟩
  cases parseFrame s.cfg.code f with
  | ok x => exact .inl ⟨x.1, x.2.1, x.2.2, rfl⟩
  | error k => exact .inr ⟨k, rfl⟩

theorem exec_frParse_eq_parsed_iff {s : State} {f : Frame} {snd rcv : NodeIdentity} {d : Data} :
    exec (.frParse f) s = .next (s.respond (.ok (.parsed snd rcv d))) ↔
      parseFrame s.cfg.code f = .ok (snd, rcv, d) := by
  rw [exec_eq_next_respond_iff, reply, Option.some.injEq, responseOf_resultOf_eq_ok_iff]
  simp

/-- For an injective table, a registered code leaves the answer to the payload (R174). -/
theorem exec_frParse_of_codeOf {s : State} (ht : s.cfg.code.Admissible) {c : Command} {v : Ident}
    (hc : codeOf s.cfg.code c = codeField v) (p : Payload) :
    exec (.frParse ⟨.extended, v, p⟩) s =
      .next (s.respond (receivedReply c ⟨senderField v⟩ ⟨receiverField v⟩ p)) :=
  exec_of_reply (reply_frParse_of_unpackIdent_ok
    (unpackIdent_extended_eq_ok_iff.mpr ⟨(lookupCommand_eq_ok_iff ht).mpr hc, rfl, rfl⟩))

theorem exec_plDecode_eq_err_iff {s : State} {c : Command} {p : Payload} {k : FailureKind} :
    exec (.plDecode c p) s = .next (s.respond (.err k)) ↔ decodePayload c p = .error k := by
  rw [exec_eq_next_respond_iff, reply, Option.some.injEq, responseOf_resultOf_eq_err_iff]

theorem decode_frParse (t : CodeTable) (w : OperandWires) {f : Frame} (hf : f.payload.length ≤ 8) :
    decode t (.opsel 0xB { w with f := frameWires f }) = .ok (.frParse f) :=
  congrArg (fun f => Except.ok (Instr.frParse f)) (readFrame_frameWires hf)

/-! ### Parsing inverts building -/

/-- The frame of a triple parses to the triple: the code field names the command, and the payload is its bytes
(R180). -/
theorem parseFrame_requestedFrame {t : CodeTable} (ht : t.Admissible) (snd rcv : NodeIdentity) (d : Data) :
    parseFrame t (requestedFrame t snd rcv d) = .ok (snd, rcv, d) := by
  obtain ⟨hcode, hsnd, hrcv⟩ := packIdent_eq_iff.mp (rfl : packIdent t (commandOf d) snd rcv = _)
  have hunpack : unpackIdent t .extended (packIdent t (commandOf d) snd rcv) = .ok (commandOf d, snd, rcv) :=
    unpackIdent_extended_eq_ok_iff.mpr ⟨(lookupCommand_eq_ok_iff ht).mpr hcode, hsnd, hrcv⟩
  rw [requestedFrame, parseFrame_of_unpackIdent_ok hunpack, decodePayload_encodePayload]
  rfl

/-- A frame that parses is the frame of the triple it parses to, whatever the table (R181). -/
theorem eq_requestedFrame_of_parseFrame {t : CodeTable} {f : Frame} {snd rcv : NodeIdentity} {d : Data}
    (h : parseFrame t f = .ok (snd, rcv, d)) : f = requestedFrame t snd rcv d := by
  obtain ⟨c, hunpack, hdecode⟩ := parseFrame_ok h
  obtain ⟨rfl, hp⟩ := decodePayload_eq_ok_iff.mp hdecode
  obtain ⟨kind, v, p⟩ := f
  cases kind with
  | standard => cases hunpack
  | extended =>
    obtain ⟨hlookup, hsnd, hrcv⟩ := unpackIdent_extended_eq_ok_iff.mp hunpack
    have hv : packIdent t (commandOf d) snd rcv = v :=
      packIdent_eq_iff.mpr ⟨lookupCommand_ok hlookup, hsnd, hrcv⟩
    rw [requestedFrame, hv, hp]

theorem exec_frParse_of_frBuild {s s' : State} {snd rcv : NodeIdentity} {d : Data} {f : Frame}
    (ht : s.cfg.code.Admissible) (hctor : s.cfg.ctor.Faithful) (hcode : s'.cfg.code = s.cfg.code)
    (h : exec (.frBuild snd rcv d) s = .next (s.respond (.ok (.frame f)))) :
    exec (.frParse f) s' = .next (s'.respond (.ok (.parsed snd rcv d))) := by
  obtain rfl := eq_requestedFrame_of_buildFrame hctor (exec_frBuild_eq_frame_iff.mp h)
  exact exec_frParse_eq_parsed_iff.mpr (hcode ▸ parseFrame_requestedFrame ht snd rcv d)

/-! ### A frame received over the wires -/

theorem decode_xid29_of_unpackIdent_ok {t : CodeTable} {ext : BitVec 1} {word : BitVec 32}
    (hword : word.toNat < 2 ^ 29) {c : Command} {snd rcv : NodeIdentity}
    (h : unpackIdent t (readKind ext) (word.setWidth 29) = .ok (c, snd, rcv)) (w : PayloadWires) :
    decode t (.xid29 ext word w) = .ok (commandInstr c snd rcv (readPayload w)) := by
  have hfits : ¬ 2 ^ idBits ≤ word.toNat := Nat.not_le.mpr hword
  rw [decode, decodeXid29, if_neg hfits, h]

theorem decode_xid29_of_unpackIdent_error {t : CodeTable} {ext : BitVec 1} {word : BitVec 32}
    (hword : word.toNat < 2 ^ 29) {k : FailureKind}
    (h : unpackIdent t (readKind ext) (word.setWidth 29) = .error k) (w : PayloadWires) :
    decode t (.xid29 ext word w) = .error (.failure k) := by
  have hfits : ¬ 2 ^ idBits ≤ word.toNat := Nat.not_le.mpr hword
  rw [decode, decodeXid29, if_neg hfits, h]

/-- ID_UNPACK decides both ways: a resolved command runs the command's row, a failure is the rejection's. -/
theorem step_xid29_eq_frParse {s : State} {ext : BitVec 1} {word : BitVec 32} {pay : PayloadWires}
    {rest : List Request} (hq : s.requests = .xid29 ext word pay :: rest) (hword : word.toNat < 2 ^ 29) :
    step s = exec (.frParse (readFrame ⟨ext, word.setWidth 29, pay⟩)) (s.takeRequest rest) := by
  cases h : unpackIdent s.cfg.code (readKind ext) (word.setWidth 29) with
  | ok x =>
    obtain ⟨c, snd, rcv⟩ := x
    have hparse : reply (s.takeRequest rest).cfg (.frParse (readFrame ⟨ext, word.setWidth 29, pay⟩)) =
        some (receivedReply c snd rcv (readPayload pay)) := reply_frParse_of_unpackIdent_ok h
    calc step s = exec (commandInstr c snd rcv (readPayload pay)) (s.takeRequest rest) :=
          step_of_decode hq (decode_xid29_of_unpackIdent_ok hword h pay)
      _ = .next ((s.takeRequest rest).respond (receivedReply c snd rcv (readPayload pay))) :=
          exec_of_reply (reply_commandInstr _ c snd rcv _)
      _ = exec (.frParse (readFrame ⟨ext, word.setWidth 29, pay⟩)) (s.takeRequest rest) :=
          (exec_of_reply hparse).symm
  | error k =>
    calc step s = onReject (.failure k) (s.takeRequest rest) :=
          step_of_reject hq (decode_xid29_of_unpackIdent_error hword h pay)
      _ = .next ((s.takeRequest rest).respond (.err k)) := rfl
      _ = exec (.frParse (readFrame ⟨ext, word.setWidth 29, pay⟩)) (s.takeRequest rest) :=
          (exec_of_reply (reply_frParse_of_unpackIdent_error h)).symm

/-- A frame that fits the lanes is received as it was sent: its own wires read back as it. -/
theorem step_frameWires_eq_frParse {s : State} {f : Frame} (hf : f.payload.length ≤ 8) {rest : List Request}
    (hq : s.requests =
      .xid29 (frameWires f).ext ((frameWires f).idval.setWidth 32) (frameWires f).payload :: rest) :
    step s = exec (.frParse f) (s.takeRequest rest) := by
  have hcontainer : ((frameWires f).idval.setWidth 32).setWidth 29 = (frameWires f).idval := by
    rw [BitVec.setWidth_setWidth_of_le _ (by decide), BitVec.setWidth_eq]
  have hword : ((frameWires f).idval.setWidth 32).toNat < 2 ^ 29 := by
    rw [BitVec.toNat_setWidth_of_le (by decide)]
    exact (frameWires f).idval.isLt
  rw [step_xid29_eq_frParse hq hword, hcontainer, readFrame_frameWires hf]

end Sys2Proof.Machine

namespace Sys2Proof.Proofs

open Sys2Proof.Machine

/-- Settles O27: a faithful constructor answers the frame it is asked for, whose fields are those of the triple. -/
theorem parseOfBuildIsIdentity : Obligations.ParseOfBuildIsIdentity :=
  fun _ _ _ _ _ _ ht hctor hcode h => exec_frParse_of_frBuild ht hctor hcode h

/-- Settles O45: the built frame fits the lanes, so it is received as built, and it parses to what was built. -/
theorem builtFrameIsReceivedOverTheWires : Obligations.BuiltFrameIsReceivedOverTheWires := by
  intro s s' snd rcv d f rest ht hctor hcode h hq
  have hlen : f.payload.length ≤ 8 :=
    isImage_payload_length (buildFrame_isImage hctor (exec_frBuild_eq_frame_iff.mp h))
  rw [step_frameWires_eq_frParse hlen hq]
  exact exec_frParse_of_frBuild (s' := s'.takeRequest rest) ht hctor hcode h

/-- Settles O21: `v` and `p` are what the constructor is asked for, and its answer is the outcome. -/
theorem frBuildHandsConstructorPackAndEncode : Obligations.FrBuildHandsConstructorPackAndEncode := by
  intro s snd rcv d v p hv hp
  obtain rfl := exec_idPack_eq_ident_iff.mp hv
  obtain rfl := exec_plEncode_eq_payload_iff.mp hp
  refine ⟨fun f hf => exec_frBuild_eq_frame_iff.mpr hf, fun hnone => exec_frBuild_eq_buildFatal_iff.mpr hnone,
    fun n hn hctor => ?_, fun t w ht => withData_dataWires ht d (.frBuild snd rcv)⟩
  obtain ⟨f, hf⟩ := exists_buildFrame_of_acceptsUpTo hn hctor snd rcv d
  exact ⟨f, exec_frBuild_eq_frame_iff.mpr hf⟩

/-- Settles O22: the constructor answers a frame, which by its law is the one it is asked for. -/
theorem frBuildCompletesWhenConstructorAccepts : Obligations.FrBuildCompletesWhenConstructorAccepts := by
  intro s n snd rcv d hn haccepts hctor
  obtain ⟨f, hf⟩ := exists_buildFrame_of_acceptsUpTo hn haccepts snd rcv d
  have hframe := eq_requestedFrame_of_buildFrame hctor hf
  rw [requestedFrame, packIdent_eq_append] at hframe
  exact exec_frBuild_eq_frame_iff.mpr (hframe ▸ hf)

/-- Settles O24: the kind, then the code field, then the payload decide; the addresses are only reported. -/
theorem frParseStages : Obligations.FrParseStages := by
  intro s v p ht
  refine ⟨exec_of_reply rfl, fun hnone => ?_, fun c k hc h => ?_, fun c d hc h => ?_,
    fun t w k hp => decode_frParse t w (f := ⟨k, v, p⟩) hp⟩
  · have hlookup : lookupCommand s.cfg.code (codeField v) = .error .unknownCommand :=
      lookupCommand_error_iff.mpr ⟨rfl, hnone⟩
    exact exec_of_reply (reply_frParse_of_unpackIdent_error (unpackIdent_extended_eq_error_iff.mpr hlookup))
  · have hfail : decodePayload c p = .error k := exec_plDecode_eq_err_iff.mp h
    rw [exec_frParse_of_codeOf ht hc, receivedReply, hfail]
    rfl
  · have hdata : decodePayload c p = .ok d := exec_plDecode_eq_data_iff.mp h
    rw [exec_frParse_of_codeOf ht hc, receivedReply, hdata]
    rfl

/-- Settles O28: the frame is the one the triple asks the constructor for. -/
theorem buildOfParseHandsTheSameFrame : Obligations.BuildOfParseHandsTheSameFrame := by
  intro s s' snd rcv d f hcode h
  obtain rfl := eq_requestedFrame_of_parseFrame (exec_frParse_eq_parsed_iff.mp h)
  rw [← hcode]
  refine ⟨rfl, exec_idPack (commandOf d) snd rcv s', exec_plEncode d s', fun g hctor hg => ?_⟩
  exact eq_requestedFrame_of_buildFrame hctor (exec_frBuild_eq_frame_iff.mp hg)

/-- Settles O44: the decoder and FR_PARSE begin with the same ID_UNPACK of the same frame. -/
theorem receivedFrameIsAnsweredAsFrParse : Obligations.ReceivedFrameIsAnsweredAsFrParse :=
  fun _ _ _ _ _ hq hword => step_xid29_eq_frParse hq hword

/-- Settles O25, by the two kinds of response FR_PARSE gives. -/
theorem frParseIsTotal : Obligations.FrParseIsTotal := by
  intro s f
  obtain ⟨r, hexec, ⟨snd, rcv, d, rfl⟩ | ⟨k, rfl⟩⟩ := exists_response_of_frParse s f
  · exact .inl ⟨snd, rcv, d, hexec⟩
  · exact .inr ⟨k, hexec⟩

/-- Settles O26: the view of a parsed triple holds it, and the view of a failure is empty. -/
theorem optionalViewOfFrParse : Obligations.OptionalViewOfFrParse := by
  intro s f r h
  obtain ⟨r', hexec, hr'⟩ := exists_response_of_frParse s f
  obtain rfl : r' = r := State.respond_inj.mp (Host.Outcome.next.inj (hexec.symm.trans h))
  obtain ⟨snd, rcv, d, rfl⟩ | ⟨k, rfl⟩ := hr'
  · simp [optionalView]
  · simp [optionalView]

end Sys2Proof.Proofs

/-! PROOF. The exceptions (R43, R195, R196): when a constructor that answers nothing by exception makes FR_BUILD fault,
and the status codes. -/

namespace Sys2Proof.Machine

/-! ### When FR_BUILD faults -/

theorem ctorApply_nil_eq_none_iff {cap : Nat} {v : Ident} {p : Payload} :
    ctorApply ⟨cap, []⟩ v p = none ↔ cap < p.length := by
  rw [ctorApply_nil, ← Nat.not_le]
  simp

theorem buildFrame_eq_none_iff_of_no_answers {cfg : Config} {cap : Nat} (hctor : cfg.ctor = ⟨cap, []⟩)
    {snd rcv : NodeIdentity} {d : Data} :
    buildFrame cfg snd rcv d = none ↔ cap < payloadLength (commandOf d) := by
  rw [buildFrame, hctor, ctorApply_nil_eq_none_iff, encodePayload_length]

/-! ### The status codes -/

/-- Each row of the reading table is a row of the status table (R196). -/
theorem statusCode_of_readStatus {b : BitVec 3} {st : Status} (h : readStatus b = some st) : statusCode st = b := by
  apply BitVec.eq_of_toNat_eq
  unfold readStatus at h
  split at h
  case h_7 => cases h
  all_goals next hb => cases h; exact hb.symm

theorem readStatus_eq_some_iff {b : BitVec 3} {st : Status} : readStatus b = some st ↔ statusCode st = b :=
  ⟨statusCode_of_readStatus, fun h => h ▸ readStatus_statusCode st⟩

theorem carriesFault_iff {w : ResponseWires} {f : Fault} :
    carriesFault w f = true ↔ w.status = statusCode (statusOfFault f) ∧ w.valid = validBit (statusOfFault f) := by
  simp [carriesFault]

end Sys2Proof.Machine

namespace Sys2Proof.Proofs

open Sys2Proof.Machine

/-- Settles O23: the constructor refuses what is longer than its cap, and the payload has its command's length. -/
theorem frBuildFaultsExactlyAboveCap : Obligations.FrBuildFaultsExactlyAboveCap :=
  fun _ _ _ _ _ hctor => exec_frBuild_eq_buildFatal_iff.trans (buildFrame_eq_none_iff_of_no_answers hctor)

/-- Settles O52: the two tables are inverse, and the fault's wires hold its status code and its valid bit. -/
theorem statusCodesOfTheTable : Obligations.StatusCodesOfTheTable :=
  ⟨rfl, rfl, rfl, rfl, rfl, rfl, rfl, rfl, fun _ _ => readStatus_eq_some_iff, fun _ => carriesFault_iff⟩

end Sys2Proof.Proofs

/-! PROOF. When a step completes (R250), what the default table makes of small identifiers (R245), and that reset is a
state like any other (R232). -/

namespace Sys2Proof.Machine

/-! ### When a step completes -/

/-- An idle step completes, and a step with a request completes exactly when the block answers the request. -/
theorem completes_iff {s : State} :
    s.Completes ↔ ∀ (q : Request) (rest : List Request), s.requests = q :: rest → ∃ r, Answers s.cfg q r := by
  constructor
  · rintro ⟨t, ht⟩ q rest hq
    obtain ⟨r, hr, -⟩ := (step_eq_next_iff hq).mp ht
    exact ⟨r, hr⟩
  · intro h
    cases hq : s.requests with
    | nil => exact ⟨s, step_of_no_request hq⟩
    | cons q rest =>
      obtain ⟨r, hr⟩ := h q rest hq
      exact ⟨_, step_of_answers hq hr⟩

/-- Only FR_BUILD can be without a reply, and it is not under CtorAcceptsUpTo(n) with n at least 4 (R172, R195). -/
theorem exists_reply_of_acceptsUpTo {cfg : Config} {n : Nat} (hn : 4 ≤ n) (hctor : cfg.ctor.AcceptsUpTo n)
    (i : Instr) : ∃ r, reply cfg i = some r := by
  refine Option.ne_none_iff_exists'.mp fun hnone => ?_
  obtain ⟨snd, rcv, d, -, hrefused⟩ := reply_eq_none hnone
  obtain ⟨f, hf⟩ := exists_buildFrame_of_acceptsUpTo hn hctor snd rcv d
  rw [hf] at hrefused
  cases hrefused

/-! ### Small identifiers under the default table -/

theorem codeField_toNat (v : Ident) : (codeField v).toNat = v.toNat / 2 ^ 16 := by
  have hv := v.isLt
  simp only [codeField, cmdShift, BitVec.extractLsb'_toNat, Nat.shiftRight_eq_div_pow]
  omega

/-- The default codes below 3 belong to the commands without fields (R112, R33). -/
theorem exists_defaultCode_of_lt_three {v : Code} (hv : v.toNat < 3) :
    ∃ d : Data, (d = .stop ∨ d = .ping ∨ d = .pong) ∧ codeOf defaultCode (commandOf d) = v := by
  obtain h0 | h1 | h2 : v.toNat = 0 ∨ v.toNat = 1 ∨ v.toNat = 2 := by omega
  · exact ⟨.stop, .inl rfl, BitVec.eq_of_toNat_eq h0.symm⟩
  · exact ⟨.ping, .inr (.inl rfl), BitVec.eq_of_toNat_eq h1.symm⟩
  · exact ⟨.pong, .inr (.inr rfl), BitVec.eq_of_toNat_eq h2.symm⟩

/-- An empty payload is the whole payload of a command without fields, so the frame parses (R143 to R145, R174). -/
theorem exec_frParse_nil_of_payloadLength_zero {s : State} (ht : s.cfg.code.Admissible) {v : Ident} {d : Data}
    (hd : payloadLength (commandOf d) = 0) (hc : codeOf s.cfg.code (commandOf d) = codeField v) :
    exec (.frParse ⟨.extended, v, []⟩) s =
      .next (s.respond (.ok (.parsed ⟨senderField v⟩ ⟨receiverField v⟩ d))) := by
  rw [exec_frParse_of_codeOf ht hc, receivedReply, responseOf_decode_of_payloadLength_zero _ hd, if_pos rfl]

end Sys2Proof.Machine

namespace Sys2Proof.Proofs

open Sys2Proof.Machine

/-- Settles O30: the code field of such an identifier is 0, 1 or 2, the code of a command that takes no byte. -/
theorem foreignTrafficThatFits : Obligations.ForeignTrafficThatFits := by
  intro s v hcode hv
  have hsmall : (codeField v).toNat < 3 := by
    rw [codeField_toNat]
    omega
  obtain ⟨d, hd, hc⟩ := exists_defaultCode_of_lt_three hsmall
  have hlen : payloadLength (commandOf d) = 0 := by obtain rfl | rfl | rfl := hd <;> rfl
  exact ⟨d, hd,
    exec_frParse_nil_of_payloadLength_zero (hcode ▸ defaultCode_admissible) hlen (hcode ▸ hc)⟩

/-- Settles O41: every instruction has a reply, and an illegal frame is answered with its failure. -/
theorem stepCompletesUnderAcceptance : Obligations.StepCompletesUnderAcceptance := by
  intro s hctor hdecodes
  refine completes_iff.mpr fun q rest hq => ?_
  obtain ⟨i, hi⟩ | ⟨k, hk⟩ := hdecodes q rest hq
  · obtain ⟨r, hr⟩ := exists_reply_of_acceptsUpTo le_rfl hctor i
    exact ⟨r, .inl ⟨i, hi, hr⟩⟩
  · exact ⟨.err k, .inr ⟨k, hk, rfl⟩⟩

/-- Settles O51: either side says that `r` is the reply, which only the parameters and the operands decide. -/
theorem firstOperationAfterResetIsOrdinary : Obligations.FirstOperationAfterResetIsOrdinary := by
  intro i s r hcfg
  calc exec i State.reset = .next { State.reset with responses := [r] }
      ↔ reply State.reset.cfg i = some r := exec_eq_next_respond_iff
    _ ↔ reply s.cfg i = some r := by rw [hcfg]
    _ ↔ exec i s = .next { s with responses := s.responses ++ [r] } := exec_eq_next_respond_iff.symm

end Sys2Proof.Proofs

/-! PROOF. Containers wider than their field (93 U14, 91 N6; log 8): the decoder rejects them by name, whatever the other
wires drive. -/

namespace Sys2Proof.Machine

/-- A word with bits above the identifier's 29 is rejected before its code field is looked up. -/
theorem decodeXid29_of_tooWide (t : CodeTable) (ext : BitVec 1) {word : BitVec 32} (pay : PayloadWires)
    (hwide : 2 ^ 29 ≤ word.toNat) : decodeXid29 t ext word pay = .error .identifierTooWide :=
  if_pos hwide

/-- A select with bits above bit 3 is no row of R75, and it is not one of the reserved selects either (R85). -/
theorem decodeOpsel_of_tooWide (t : CodeTable) {op : Byte} (w : OperandWires) (hwide : 16 ≤ op.toNat) :
    decodeOpsel t op w = .error .opSelectTooWide := by
  rw [decodeOpsel]
  split
  case h_13 => exact if_neg (by omega)
  all_goals omega

end Sys2Proof.Machine

namespace Sys2Proof.Proofs

open Sys2Proof.Machine

/-- Settles O38: the decoder rejects either container, and the step refuses what the decoder rejects so. -/
theorem widerContainersAreRefused : Obligations.WiderContainersAreRefused :=
  fun s _ => ⟨fun ext _ pay hwide hq => step_of_reject hq (decodeXid29_of_tooWide s.cfg.code ext pay hwide),
    fun _ w hwide hq => step_of_reject hq (decodeOpsel_of_tooWide s.cfg.code w hwide)⟩

end Sys2Proof.Proofs
